-- ==== Sys2Proof/Word.lean ====
section
/-! DEFINITION. The value types of the block: bus words, slots, the sum, average and result,
and the level of the chip-select line. Bit 0 is the least significant bit and every
value is unsigned (R10). -/

namespace Sys2Proof

/-- One bus word, the Reading or the outbound word: `WORD_W` = 16 bits (R5). -/
abbrev BusWord := BitVec 16

/-- One history slot and one decoded value: `SLOT_W` = 13 bits (R6, R21). -/
abbrev SlotWord := BitVec 13

/-- The ring cursor and every slot index: `CURSOR_W` = 2 bits (R6, R25, R50). -/
abbrev SlotIndex := BitVec 2

/-- The sum of the four slots: `SUM_W` = 15 bits (R6, R156). -/
abbrev SumWord := BitVec 15

/-- The average: `AVG_W` = 13 bits (R6, R157). -/
abbrev AvgWord := BitVec 13

/-- The result of READ in whole degrees Celsius: `TEMP_W` = 11 bits (R6, R86). -/
abbrev TempWord := BitVec 11

/-- The command code `cmd[1:0]` (R83). -/
abbrev CmdCode := BitVec 2

/-- A level of the chip-select line: `low` is asserted, `high` is deasserted (R13). -/
inductive Level where
  | low
  | high
  deriving DecidableEq, Repr

/-- The bit that stands for a level where one is needed (R13). -/
def Level.toBit : Level → BitVec 1
  | .low => 0#1
  | .high => 1#1

end Sys2Proof
end

