-- ==== Sys2Proof/Config.lean ====
section
/-! DEFINITION. What is fixed for the machine: the two open token types, the outbound word, the word
size that INIT asks the transport for, and the values the model names for the fields that have no
value after power-on. -/

namespace Sys2Proof

/-- Which numbers beside 0 name a transport reference: the open parameter `TransportId` (R7, D19).
It has no body, so a claim holds for every choice of it, a type of one token included (log entry 1). -/
opaque Config.namesTransport : Nat → Bool

/-- Which numbers beside 0 name a chip-select identity: the open parameter `LineId` (R7, D19), open
likewise (log entry 1). -/
opaque Config.namesLine : Nat → Bool

/-- The opaque transport reference (R7, R26): a token that the block stores and passes on. The type
is open but for having one token (log entry 1). -/
structure TransportId where
  name : Nat
  named : name = 0 ∨ Config.namesTransport name = true
  deriving DecidableEq, Repr

/-- The opaque chip-select identity (R7, R26), open likewise (log entry 1). -/
structure LineId where
  name : Nat
  named : name = 0 ∨ Config.namesLine name = true
  deriving DecidableEq, Repr

/-- The one transport token that every choice of the type has. -/
def TransportId.first : TransportId := ⟨0, .inl rfl⟩

/-- The one line token that every choice of the type has. -/
def LineId.first : LineId := ⟨0, .inl rfl⟩

/-- The outbound word of every exchange (R60). -/
def Config.wordOut : BusWord := 0x0000#16

/-- The `bits_per_word` argument of `set_transfer_format` (R64). -/
def Config.bitsPerWord : Nat := 16

/-- DESIGN CHOICE, unsafe (log entry 2): what a history slot holds after power-on, where R212 gives
no value and asks that it be no zero. -/
def Config.powerOnSlot : SlotWord := 0x1FFF#13

/-- DESIGN CHOICE, unsafe (log entry 2): the cursor after power-on, where R212 gives no value. -/
def Config.powerOnCursor : SlotIndex := 0b11#2

/-- DESIGN CHOICE, unsafe (log entry 2): `tp` after power-on, where R212 gives no value. -/
def Config.powerOnTransport : TransportId := .first

/-- DESIGN CHOICE, unsafe (log entry 2): `csid` after power-on, where R212 gives no value. -/
def Config.powerOnLine : LineId := .first

end Sys2Proof
end

