-- ==== Sys2Proof/Syntax.lean ====
section
/-! DEFINITION. The commands (one constructor per row of the command map, R88), the values at the
command port (format CMD, R83), and the fields of the Reading (format RDG, R81). -/

namespace Sys2Proof

/-- The command map of R88. -/
inductive Instr where
  /-- `0b00`, no command (R90). -/
  | idle
  /-- `0b01`, `initialize(transport, chip_select)` (R110). -/
  | init (transport : TransportId) (chipSelect : LineId)
  /-- `0b10`, `read_temperature()` (R120). -/
  | read
  /-- `0b11`, both requests at once: no command, the reserved code (R91). -/
  | reserved
  deriving DecidableEq, Repr

/-- What the caller presents at the command port: the code and the two opaque operands that INIT
takes with it (R83, R84). The operands are values of their own and have no bits of the code. -/
structure Command where
  cmd : CmdCode
  transport : TransportId
  chipSelect : LineId
  deriving DecidableEq, Repr

/-- The Reading's five fields (R81). The block gives `fault` and `id` no polarity (R82). -/
structure Reading where
  rsv : BitVec 1
  mag : BitVec 12
  fault : BitVec 1
  id : BitVec 1
  undef : BitVec 1
  deriving DecidableEq, Repr

/-- The `polarity` argument of `set_transfer_format`: a symbol without a code (R64). The block
sends `idleHigh` only (log entry 10). -/
inductive Polarity where
  | idleHigh
  | idleLow
  deriving DecidableEq, Repr

/-- The `phase` argument (R64). The block sends `secondEdge` only (log entry 10). -/
inductive Phase where
  | secondEdge
  | firstEdge
  deriving DecidableEq, Repr

/-- The `bit_order` argument (R64). The block sends `msbFirst` only (log entry 10). -/
inductive BitOrder where
  | msbFirst
  | lsbFirst
  deriving DecidableEq, Repr

end Sys2Proof
end

