-- ==== Sys2Proof/Decode.lean ====
section
/-! DEFINITION. The command decoder and encoder (R83, R88), the splitting of a Reading into its
fields (R81), and the reading of an opcode-table word. -/

namespace Sys2Proof

/-- The command decoder of R88: it looks at `cmd[1:0]`, bit 0 being the INIT request and bit 1 the
READ request (R83). It is total: the reserved code is a row of its own, whose meaning is the fault
`ReservedCommand` (R184). -/
def decode (p : Command) : Instr :=
  if p.cmd = 0b00#2 then .idle
  else if p.cmd = 0b01#2 then .init p.transport p.chipSelect
  else if p.cmd = 0b10#2 then .read
  else .reserved

/-- The code of a row of the command map (R88). -/
def Instr.code : Instr → CmdCode
  | .idle => 0b00#2
  | .init _ _ => 0b01#2
  | .read => 0b10#2
  | .reserved => 0b11#2

/-- What a row puts on the operand wires of the port. DESIGN CHOICE (log entry 9): a row without
operands puts the first tokens there, which no rule reads. -/
def Instr.operands : Instr → TransportId × LineId
  | .idle => (.first, .first)
  | .init t c => (t, c)
  | .read => (.first, .first)
  | .reserved => (.first, .first)

/-- The encoder: the value the caller presents to ask for a row of the command map (R83, R84). -/
def encode (i : Instr) : Command :=
  ⟨i.code, i.operands.1, i.operands.2⟩

/-- The port value of an opcode-table word. DESIGN CHOICE (log entry 9): the port has two wires, so
bits above bit 1 are no part of the code (the table's mask is 0x3), and the operands, which the
table gives no bits, are the first tokens. -/
def commandOfTableWord (w : Nat) : Command :=
  ⟨BitVec.ofNat 2 w, .first, .first⟩

/-- What the decoder reads from an opcode-table word. -/
def decodeTableWord (_nbits w : Nat) : Option Instr :=
  some (decode (commandOfTableWord w))

/-- The fields of a word: bits 15, 14..3, 2, 1 and 0 (R81). -/
def Reading.ofWord (w : BusWord) : Reading where
  rsv := w.extractLsb' 15 1
  mag := w.extractLsb' 3 12
  fault := w.extractLsb' 2 1
  id := w.extractLsb' 1 1
  undef := w.extractLsb' 0 1

/-- The word with given fields: `{rsv, mag, fault, id, undef}` (R81). -/
def Reading.toWord (r : Reading) : BusWord :=
  r.rsv ++ r.mag ++ r.fault ++ r.id ++ r.undef

end Sys2Proof
end

