-- ==== Sys2Proof/Machine/State.lean ====
section
/-! DEFINITION. The state of one instance of the block (R20, R36), the event trace (R65), what the
caller and the transport will do, the reasons a step can stop, and the state after power-on. -/

namespace Sys2Proof.Machine

open Sys2Proof

/-- An event at the interfaces (R65). -/
inductive Event where
  /-- `SetFormat(tp, bits, pol, phase, order)`, by INIT (R112). -/
  | setFormat (tp : TransportId) (bits : Nat) (pol : Polarity) (phase : Phase) (order : BitOrder)
  /-- `SetLine(id, level)`, by READ (R122). -/
  | setLine (id : LineId) (level : Level)
  /-- `ExchangeStart(tp, word_out)`, by READ (R122). -/
  | exchangeStart (tp : TransportId) (wordOut : BusWord)
  /-- `ExchangeDone(tp, word_in)`, by the transport (R122). -/
  | exchangeDone (tp : TransportId) (wordIn : BusWord)
  /-- `Return(temp)`, to the caller (R122). -/
  | returned (temp : TempWord)
  deriving DecidableEq, Repr

/-- The history buffer: always exactly four slots, numbered 0 to 3 (R21). -/
structure Hist where
  slot0 : SlotWord
  slot1 : SlotWord
  slot2 : SlotWord
  slot3 : SlotWord
  deriving DecidableEq, Repr

/-- The transport's answer to one exchange: it lets the caller's port be looked at `wait` times
while the exchange is outstanding, then returns `word` (R58, R59). Both are free (log entry 4). -/
structure Answer where
  wait : Nat
  word : BusWord
  deriving DecidableEq, Repr

/-- The machine's state. `hist` to `inited` are the block's state, exactly the fields of R20.
`trace` is the model's record (R33, R65). `port` and `answers` are what the caller and the
transport will do: plain data for the two other agents of R8 (log entries 3 and 4). -/
structure State where
  /-- The history buffer (R21). -/
  hist : Hist
  /-- The next slot to overwrite (R25). -/
  cursor : SlotIndex
  /-- The transport reference that INIT stored (R26). -/
  tp : TransportId
  /-- The chip-select identity that INIT stored (R26). -/
  csid : LineId
  /-- The level the block last drove on the line `csid` (R28). -/
  cs : Level
  /-- Whether an INIT has completed since power-on (R27). -/
  inited : Bool
  /-- The interface events so far, oldest first. No rule reads it (R65). -/
  trace : List Event
  /-- What the caller presents at the command port, next first. Past its end there is no command
  (R90). -/
  port : List Command
  /-- The transport's answers, one per exchange, next first. Past its end it never answers
  (R124). -/
  answers : List Answer
  deriving DecidableEq, Repr

/-- The commands that can meet a READ in flight (R183). -/
inductive Op where
  | init
  | read
  deriving DecidableEq, Repr

/-- The three model-level faults (R182 to R184). Each stands for a case that the source calls
undefined. A faulting command has no effect and the run is over (R186). -/
inductive Fault where
  /-- Raised by RESERVED, the code `0b11` (R184). Safe: the source gives that case no effect. -/
  | reservedCommand
  /-- Raised by INIT and READ presented while `cs = LOW` (R183). Safe: the source gives that case
  no effect. -/
  | overlap (op : Op)
  /-- Raised by READ while `inited = 0` (R182). Safe: the source calls the case undefined, and
  90_conflicts.md C5 picks this outcome. -/
  | notInitialized
  deriving DecidableEq, Repr

/-- The reasons to give a command no meaning. -/
inductive Refusal where
  /-- Raised by an arm of `exec` whose command has no meaning yet. No arm raises it. Safe. -/
  | notModelled (mnemonic : String)
  deriving DecidableEq, Repr

/-- The machine right after power-on (R34, R211): the line is high, no INIT has completed, and no
event has been emitted. R212 gives `hist`, `cursor`, `tp` and `csid` no value: theirs are named by
`Config` (DESIGN CHOICE, unsafe, log entry 2). The caller presents nothing and the transport has
nothing to answer (DESIGN CHOICE, log entries 3 and 4). -/
def State.reset : State where
  hist := ⟨Config.powerOnSlot, Config.powerOnSlot, Config.powerOnSlot, Config.powerOnSlot⟩
  cursor := Config.powerOnCursor
  tp := Config.powerOnTransport
  csid := Config.powerOnLine
  cs := .high
  inited := false
  trace := []
  port := []
  answers := []

end Sys2Proof.Machine
end

