-- ==== Sys2Proof/Machine/Ops.lean ====
section
/-! DEFINITION. The named operations over slots, events, the line, the command port and the
transport's answers, and the raising of a fault. -/

namespace Sys2Proof.Machine

open Sys2Proof

/-- The slot at an index (R50). All four indices name a slot. -/
def Hist.get (h : Hist) (i : SlotIndex) : SlotWord :=
  if i = 0#2 then h.slot0
  else if i = 1#2 then h.slot1
  else if i = 2#2 then h.slot2
  else h.slot3

/-- The history with one whole slot overwritten (R50, R151). -/
def Hist.set (h : Hist) (i : SlotIndex) (d : SlotWord) : Hist :=
  if i = 0#2 then { h with slot0 := d }
  else if i = 1#2 then { h with slot1 := d }
  else if i = 2#2 then { h with slot2 := d }
  else { h with slot3 := d }

/-- The history that INIT leaves: four zero slots (R111). -/
def Hist.zero : Hist := ⟨0#13, 0#13, 0#13, 0#13⟩

/-- `hist[i]`, also written `MemRead(i, 1)` (R12). -/
def State.readSlot (s : State) (i : SlotIndex) : SlotWord := s.hist.get i

/-- `hist[i] <- d`, also written `MemWrite(i, 1, d)` (R12). -/
def State.writeSlot (s : State) (i : SlotIndex) (d : SlotWord) : State :=
  { s with hist := s.hist.set i d }

/-- The cursor advance modulo 4: two-bit addition with the carry dropped (R152). -/
def State.advanceCursor (s : State) : State :=
  { s with cursor := s.cursor + 1#2 }

/-- `emit e`: one event at the end of the trace (R12, R65). -/
def State.emit (s : State) (e : Event) : State :=
  { s with trace := s.trace ++ [e] }

/-- Drive the line `csid` and keep the level in `cs` (R28, R61). -/
def State.driveLine (s : State) (level : Level) : State :=
  { s with cs := level }.emit (.setLine s.csid level)

/-- `raise f`: the only exception mechanism. The step ends with the fault, no state changes,
nothing is saved, nothing is emitted, and there is no return from it (R186, R187). The sticky mark
is the outcome itself (log entry 6). -/
def raiseFault (f : Fault) : Host.Outcome State Fault Refusal := .fault f

/-- No command at the port (R90). -/
def noCommand : Command := ⟨0b00#2, .first, .first⟩

/-- What the caller presents now. -/
def State.presented (s : State) : Command := s.port.headD noCommand

/-- The word that the transport returns now: there is one exactly when an exchange is outstanding
(`cs = LOW`, R28) and the transport has waited as long as it chose to (R58). Where an answer is
due it comes before the caller's next command (R185, log entry 4). -/
def State.answerDue (s : State) : Option BusWord :=
  match s.cs, s.answers with
  | .low, ⟨0, w⟩ :: _ => some w
  | _, _ => none

/-- The transport's answer is used up (R61). -/
def State.dropAnswer (s : State) : State :=
  { s with answers := s.answers.tail }

/-- The transport waits for one more look at the command port. -/
def Answer.elapse (a : Answer) : Answer := { a with wait := a.wait - 1 }

/-- The state in which a presented command is executed: it is off the port, and a transport that
owes an answer has waited once more. -/
def State.afterPort (s : State) : State :=
  match s.cs, s.answers with
  | .low, a :: rest => { s with port := s.port.tail, answers := a.elapse :: rest }
  | _, _ => { s with port := s.port.tail }

/-- The caller presents a command next. An answer that is due is put off by one look at the port,
so that the command comes first. -/
def State.present (s : State) (p : Command) : State :=
  match s.answerDue, s.answers with
  | some _, a :: rest => { s with port := p :: s.port, answers := { a with wait := a.wait + 1 } :: rest }
  | _, _ => { s with port := p :: s.port }

end Sys2Proof.Machine
end

