-- ==== Sys2Proof/Machine/Idle.lean ====
section
/-! DEFINITION. The command IDLE. -/

namespace Sys2Proof.Machine

open Sys2Proof

/-- IDLE: no state changes, no event, no fault, in every state (R90). -/
def execIdle (s : State) : Host.Outcome State Fault Refusal := .next s

end Sys2Proof.Machine
end

