-- ==== Sys2Proof/Machine/Flags.lean ====
section
/-! DEFINITION. The block has no status flag and no operation has a flag side effect (R29). The two
bits that a step tests are `cs` and `inited`. -/

namespace Sys2Proof.Machine

open Sys2Proof

/-- A READ has started and not finished: `cs = LOW` (R28). -/
def State.busy (s : State) : Bool := s.cs == .low

/-- No INIT has completed since power-on: `inited = 0` (R27). -/
def State.uninitialized (s : State) : Bool := !s.inited

end Sys2Proof.Machine
end

