-- ==== Sys2Proof/Machine/Init.lean ====
section
/-! DEFINITION. The command INIT (R110 to R116). -/

namespace Sys2Proof.Machine

open Sys2Proof

/-- What an admitted INIT leaves: both operands stored, cursor and history zeroed, `inited` set,
and one `SetFormat` to the new transport (R111, R112). `cs` is not written (R113). -/
def State.initialized (s : State) (t : TransportId) (c : LineId) : State :=
  { s with tp := t, csid := c, cursor := 0#2, hist := Hist.zero, inited := true }.emit
    (.setFormat t Config.bitsPerWord .idleHigh .secondEdge .msbFirst)

/-- INIT: refused by `Overlap` while a READ is in flight, admitted otherwise (R110, R111). -/
def execInit (t : TransportId) (c : LineId) (s : State) : Host.Outcome State Fault Refusal :=
  if s.busy then raiseFault (.overlap .init) else .next (s.initialized t c)

end Sys2Proof.Machine
end

