-- ==== Sys2Proof/Machine/History.lean ====
section
/-! DEFINITION. Stages INSERT (R150 to R154) and AVERAGE (R155 to R161) of READ. -/

namespace Sys2Proof.Machine

open Sys2Proof

/-- INSERT: the decoded value into the slot under the cursor, then the advance (R151, R152). -/
def State.insertDecoded (s : State) (d : SlotWord) : State :=
  (s.writeSlot s.cursor d).advanceCursor

/-- AVERAGE, the sum over all four slots, exact in 15 bits (R156). It is formed anew on every READ
(R158). -/
def State.slotSum (s : State) : SumWord :=
  (s.readSlot 0#2).setWidth 15 + (s.readSlot 1#2).setWidth 15 +
    (s.readSlot 2#2).setWidth 15 + (s.readSlot 3#2).setWidth 15

/-- AVERAGE, the division by 4: `avg = sum[14:2]` (R157). -/
def average (sum : SumWord) : AvgWord := sum.extractLsb' 2 13

end Sys2Proof.Machine
end

