-- ==== Sys2Proof/Machine/Operands.lean ====
section
/-! DEFINITION. The assembly of READ's one data operand: stage DECODE (R85, R141). INIT's operands
are the port's two tokens as they are (R84), and no other command has an operand. -/

namespace Sys2Proof.Machine

open Sys2Proof

/-- DECODE: `d = word_in[15:3]`, a logical shift right by 3 with no mask, 13 bits (R141, R142). -/
def decodeReading (w : BusWord) : SlotWord := w.extractLsb' 3 13

end Sys2Proof.Machine
end

