-- ==== Sys2Proof/Machine/Scale.lean ====
section
/-! DEFINITION. Stage SCALE of READ (R170 to R176). -/

namespace Sys2Proof.Machine

open Sys2Proof

/-- SCALE: `temp = avg[12:2]`, whole degrees, truncated (R171, R173). -/
def scale (avg : AvgWord) : TempWord := avg.extractLsb' 2 11

end Sys2Proof.Machine
end

