-- ==== Sys2Proof/Machine/Read.lean ====
section
/-! DEFINITION. The command READ (R120 to R130): the start step, which the command runs, and the
finish step, which the transport's answer runs. -/

namespace Sys2Proof.Machine

open Sys2Proof

/-- What an admitted start leaves: the line driven low and the exchange issued (R121). -/
def State.readStarted (s : State) : State :=
  (s.driveLine .low).emit (.exchangeStart s.tp Config.wordOut)

/-- READ, the start step, with its two checks in order (R121, R185). -/
def execRead (s : State) : Host.Outcome State Fault Refusal :=
  if s.busy then raiseFault (.overlap .read)
  else if s.uninitialized then raiseFault .notInitialized
  else .next s.readStarted

/-- The result of READ from the four slots: stages AVERAGE and SCALE (R156, R157, R171). -/
def State.temperature (s : State) : TempWord := scale (average s.slotSum)

/-- READ, the finish step, run when the transport answers the outstanding exchange with `w`. The
slots are read after the insertion, and no word is rejected (R123, R125). -/
def State.readFinished (s : State) (w : BusWord) : State :=
  let released := (s.emit (.exchangeDone s.tp w)).driveLine .high
  let inserted := released.insertDecoded (decodeReading w)
  inserted.emit (.returned inserted.temperature)

end Sys2Proof.Machine
end

