-- ==== Sys2Proof/Machine/Reserved.lean ====
section
/-! DEFINITION. The reserved code `0b11`. -/

namespace Sys2Proof.Machine

open Sys2Proof

/-- RESERVED: both requests at once, the fault `ReservedCommand` in every state (R91, R184), before
any other check (R185). -/
def execReserved (_s : State) : Host.Outcome State Fault Refusal := raiseFault .reservedCommand

end Sys2Proof.Machine
end

