-- ==== Sys2Proof/Machine/Dispatch.lean ====
section
/-! DEFINITION. One arm per row of the command map. -/

namespace Sys2Proof.Machine

open Sys2Proof

def exec (i : Instr) (s : State) : Host.Outcome State Fault Refusal :=
  match i with
  | .idle => Sys2Proof.Machine.execIdle s
  | .init t c => Sys2Proof.Machine.execInit t c s
  | .read => Sys2Proof.Machine.execRead s
  | .reserved => Sys2Proof.Machine.execReserved s

end Sys2Proof.Machine
end

