-- ==== Sys2Proof/Machine/Step.lean ====
section
/-! DEFINITION. One step of the machine: the transport answers where its answer is due, and
otherwise the command at the caller's port is executed (R8, R124, R185). -/

namespace Sys2Proof.Machine

open Sys2Proof

/-- One transition. Where the transport's answer is due, READ finishes with it (R123). Otherwise
the presented command is decoded and executed, IDLE where the caller presents none (R90). A block
that waits for an answer which never comes steps by IDLE for ever (R124, log entry 5). -/
def step (s : State) : Host.Outcome State Fault Refusal :=
  match s.answerDue with
  | some w => .next (s.dropAnswer.readFinished w)
  | none => exec (decode s.presented) s.afterPort

/-- The caller presents the command of an opcode-table word next (log entries 3 and 9). -/
def State.withFetchWord (s : State) (_nbits w : Nat) : State :=
  s.present (commandOfTableWord w)

end Sys2Proof.Machine
end

