-- ==== Sys2Proof/WellFormed.lean ====
section
/-! DEFINITION. What the spec calls a well-formed word (R81, the glossary of 00_scope.md), and which
values of the command map are commands (R88, R91). Neither check guards any step: the block accepts
every word (R92), and the reserved code has an outcome of its own (R184). -/

namespace Sys2Proof

/-- A well-formed word has its reserved bit 15 clear. -/
def Reading.wellFormed (r : Reading) : Bool := r.rsv == 0#1

/-- Every row of the command map but the reserved one is a command (R91). -/
def Instr.wellFormed : Instr → Bool
  | .idle => true
  | .init _ _ => true
  | .read => true
  | .reserved => false

end Sys2Proof
end

