-- ==== Sys2Proof/Safety.lean ====
section
/-! DEFINITION. What claims are stated in: runs, the chip-select discipline and the history as they
are read off the event trace, and the maps on states that no step may tell apart. -/

namespace Sys2Proof.Machine

open Sys2Proof

/-- `n` steps of the machine. -/
def runSteps (n : Nat) (s : State) : Host.Outcome State Fault Refusal :=
  Sys2Proof.core.run n s

/-- An outcome with a map applied to its next state. -/
def mapNext (f : State → State) : Host.Outcome State Fault Refusal → Host.Outcome State Fault Refusal
  | .next s => .next (f s)
  | .fault r => .fault r
  | .refused r => .refused r

/-- The same stop, or two next states that are related. -/
def outcomesAgree (r : State → State → Prop) :
    Host.Outcome State Fault Refusal → Host.Outcome State Fault Refusal → Prop
  | .next s, .next t => r s t
  | .fault f, .fault g => f = g
  | .refused f, .refused g => f = g
  | _, _ => False

/-- Where the interfaces stand in one READ's sequence of events (R122). -/
inductive BusPhase where
  | quiet
  | asserted (line : LineId)
  | exchanging (line : LineId) (tp : TransportId)
  | answered (line : LineId)
  | released
  deriving DecidableEq, Repr

/-- The phase after one more event, if R122 and R112 allow the event there: one assert, then one
exchange with one transport, then one deassert of the same line, then the result; a format only
between READs. -/
def BusPhase.after : BusPhase → Event → Option BusPhase
  | .quiet, .setFormat _ _ _ _ _ => some .quiet
  | .quiet, .setLine l .low => some (.asserted l)
  | .asserted l, .exchangeStart t w => if w = 0x0000#16 then some (.exchanging l t) else none
  | .exchanging l t, .exchangeDone t' _ => if t' = t then some (.answered l) else none
  | .answered l, .setLine l' .high => if l' = l then some .released else none
  | .released, .returned _ => some .quiet
  | _, _ => none

/-- The phase after a trace, if every event of it is allowed where it stands. -/
def busPhase (trace : List Event) : Option BusPhase :=
  trace.foldl (fun phase e => phase.bind fun p => p.after e) (some .quiet)

/-- The chip-select discipline of R65 and R122 holds so far, and `cs` says where it stands: an
exchange is in flight, on the stored line and transport, exactly while `cs = LOW` (R28, R35.1). -/
def State.ChipSelectDiscipline (s : State) : Prop :=
  busPhase s.trace = some (match s.cs with
    | .low => .exchanging s.csid s.tp
    | .high => .quiet)

/-- A READ in flight has an INIT behind it (R185). -/
def State.BusyInitialized (s : State) : Prop := s.cs = .low → s.inited = true

/-- The words received since the last `SetFormat`, oldest first, after one more event. -/
def wordsAfter (ws : List BusWord) : Event → List BusWord
  | .setFormat _ _ _ _ _ => []
  | .exchangeDone _ w => ws ++ [w]
  | .setLine _ _ => ws
  | .exchangeStart _ _ => ws
  | .returned _ => ws

/-- The words received since the last INIT, oldest first, read off the trace. -/
def wordsSinceInit (trace : List Event) : List BusWord := trace.foldl wordsAfter []

/-- R35 items 3 and 4 of a state whose READs since the last INIT received `ws`: the cursor is their
number modulo 4, a slot holds the decode (the word divided by 8) of the last of them whose turn it
was, and a slot whose turn has not come holds 0. -/
def State.HistoryHolds (s : State) (ws : List BusWord) : Prop :=
  s.cursor.toNat = ws.length % 4 ∧
  ∀ i : SlotIndex,
    (∀ k w, ws[k]? = some w → k % 4 = i.toNat →
      (∀ j, k < j → j < ws.length → j % 4 ≠ i.toNat) → (s.hist.get i).toNat = w.toNat / 8) ∧
    ((∀ k, k < ws.length → k % 4 ≠ i.toNat) → s.hist.get i = 0#13)

/-- R35 items 3 and 4, for the words of the trace. -/
def State.HistoryTracksTrace (s : State) : Prop :=
  s.inited = true → s.HistoryHolds (wordsSinceInit s.trace)

/-- The result the source asks of a READ after the words `ws` since INIT, this READ's included
(95_test_vectors.md S1): the last four decoded values, absent ones counting as 0, summed, divided
by 4 and scaled by a quarter. -/
def movingAverage (ws : List BusWord) : Nat :=
  (((ws.map fun w => w.toNat / 8).reverse.take 4).sum / 4) / 4

/-- Every result in the trace is the moving average of the words before it. -/
def ReturnsAreAverages (trace : List Event) : Prop :=
  ∀ before temp after, trace = before ++ .returned temp :: after →
    temp.toNat = movingAverage (wordsSinceInit before)

/-- The machine computes the moving average: the invariant behind every result. -/
def State.ComputesAverages (s : State) : Prop :=
  s.BusyInitialized ∧ s.HistoryTracksTrace ∧ ReturnsAreAverages s.trace

/-- R35 item 5: with well-formed words only since the last INIT, every slot is at most 4095. -/
def State.WellFormedRange (s : State) : Prop :=
  s.inited = true → (∀ w ∈ wordsSinceInit s.trace, (Reading.ofWord w).wellFormed = true) →
    ∀ i, (s.hist.get i).toNat ≤ 4095

/-- Two states that agree, or that differ at most in the four fields without a power-on value while
no INIT has completed (R212). -/
def State.agreesButUnset (s t : State) : Prop :=
  s = t ∨ (s.inited = false ∧ s.cs = .high ∧
    t = { s with hist := t.hist, cursor := t.cursor, tp := t.tp, csid := t.csid })

/-- An event with other tokens. -/
def Event.rename (f : TransportId → TransportId) (g : LineId → LineId) : Event → Event
  | .setFormat t b p ph o => .setFormat (f t) b p ph o
  | .setLine l v => .setLine (g l) v
  | .exchangeStart t w => .exchangeStart (f t) w
  | .exchangeDone t w => .exchangeDone (f t) w
  | .returned x => .returned x

/-- A port value with other tokens. -/
def renameCommand (f : TransportId → TransportId) (g : LineId → LineId) (p : Command) : Command :=
  { p with transport := f p.transport, chipSelect := g p.chipSelect }

/-- A state with other tokens, everywhere (R26). -/
def State.rename (f : TransportId → TransportId) (g : LineId → LineId) (s : State) : State :=
  { s with tp := f s.tp, csid := g s.csid, trace := s.trace.map (Event.rename f g),
           port := s.port.map (renameCommand f g) }

/-- A word with the fault, id and undefined bits cleared (R143). -/
def maskLowBits (w : BusWord) : BusWord := w &&& 0xFFF8#16

/-- An event with the received word's three low bits cleared. -/
def Event.maskLow : Event → Event
  | .setFormat t b p ph o => .setFormat t b p ph o
  | .setLine l v => .setLine l v
  | .exchangeStart t w => .exchangeStart t w
  | .exchangeDone t w => .exchangeDone t (maskLowBits w)
  | .returned x => .returned x

/-- A state whose received words, past and to come, have their three low bits cleared. -/
def State.maskLow (s : State) : State :=
  { s with trace := s.trace.map Event.maskLow,
           answers := s.answers.map fun a => { a with word := maskLowBits a.word } }

/-- A caller and a transport that keep to R215 and R217: INIT has been done, the reserved code is
never presented, and the transport answers every exchange before the caller's next command, often
enough for every READ of the port and the one in flight. -/
def State.keepsDiscipline (s : State) : Prop :=
  s.inited = true ∧ (∀ p ∈ s.port, p.cmd ≠ 0b11#2) ∧ (∀ a ∈ s.answers, a.wait = 0) ∧
  (s.port.countP fun p => p.cmd == 0b10#2) + (if s.cs = .low then 1 else 0) ≤ s.answers.length

end Sys2Proof.Machine
end

