-- ==== Sys2Proof/Certificates/Slice0/Obligations.lean ====
section
/-! DEFINITION. The statements for the provers, each a claim about the machine read off a rule of
the spec. Encoding first, then the command by command effects, the data path, whole-machine rules
and invariants. -/

open Sys2Proof Sys2Proof.Machine

/-! ## Encoding -/

/-- R80, R81, R83, R88: the two formats lose no bit. Every command survives encoding, a port value
survives decoding in its code (and in its operands too where it is INIT), and a Reading is its five
fields. -/
def Obligations.DecodeEncodeAgree : Prop :=
  (∀ i : Instr, decode (encode i) = i) ∧
  (∀ p : Command, (encode (decode p)).cmd = p.cmd ∧ (p.cmd = 0b01#2 → encode (decode p) = p)) ∧
  (∀ w : BusWord, (Reading.ofWord w).toWord = w) ∧
  (∀ r : Reading, Reading.ofWord r.toWord = r)

/-- R83, R88: the four values of `cmd[1:0]` are the four rows, bit 0 being the INIT request and bit 1
the READ request, and there is nothing else to decode but INIT's operands. -/
def Obligations.CommandMapHasFourRows : Prop :=
  ∀ p : Command,
    (decode p = .idle ↔ p.cmd = 0b00#2) ∧
    (∀ t c, decode p = .init t c ↔ p.cmd = 0b01#2 ∧ p.transport = t ∧ p.chipSelect = c) ∧
    (decode p = .read ↔ p.cmd = 0b10#2) ∧
    (decode p = .reserved ↔ p.cmd = 0b11#2) ∧
    (p.cmd = 0b01#2 ↔ p.cmd.getLsbD 0 = true ∧ p.cmd.getLsbD 1 = false) ∧
    (p.cmd = 0b10#2 ↔ p.cmd.getLsbD 0 = false ∧ p.cmd.getLsbD 1 = true)

/-- R88, R81 and the vectors V1 and V7 of 95_test_vectors.md: a few codes and words, written out. That
INIT's operands, which the table gives no bits, are then the first tokens is the model's choice, log
entry 9. -/
def Obligations.KnownCodesAndWordsDecode : Prop :=
  decodeTableWord 8 0b00 = some .idle ∧
  decodeTableWord 8 0b01 = some (.init .first .first) ∧
  decodeTableWord 8 0b10 = some .read ∧
  decodeTableWord 8 0b11 = some .reserved ∧
  Reading.ofWord 0b1010101111001101#16 = ⟨0b1#1, 0b010101111001#12, 0b1#1, 0b0#1, 0b1#1⟩ ∧
  decodeReading 0xABCD#16 = 5497#13 ∧
  decodeReading 0x8000#16 = 4096#13 ∧
  decodeReading 0x0007#16 = 0#13 ∧
  decodeReading 0xFFFF#16 = 8191#13

/-! ## A step runs the presented command -/

/-- R8, R90, R124: unless the transport's answer is due, a step executes what the caller presents,
taken off the port, IDLE where it presents nothing. The log entries 3 and 4 say how `port` and
`answers` stand for the two agents. -/
def Obligations.StepRunsPresentedCommand : Prop :=
  (∀ (s : State) (p : Command) (ps : List Command), s.cs = .high → s.port = p :: ps →
    step s = exec (decode p) { s with port := ps }) ∧
  (∀ (s : State) (p : Command) (ps : List Command), s.answers = [] → s.port = p :: ps →
    step s = exec (decode p) { s with port := ps }) ∧
  (∀ (s : State) (p : Command) (ps : List Command) (n : Nat) (w : BusWord) (rest : List Answer),
    s.cs = .low → s.answers = ⟨n + 1, w⟩ :: rest → s.port = p :: ps →
    step s = exec (decode p) { s with port := ps, answers := ⟨n, w⟩ :: rest }) ∧
  (∀ s : State, s.port = [] → s.cs = .high ∨ s.answers = [] → step s = exec .idle s)

/-! ## The commands -/

/-- R90: IDLE does nothing, in every state, a READ in flight included. -/
def Obligations.IdleChangesNothing : Prop :=
  ∀ s : State, exec .idle s = .next s

/-- R111, R112: an admitted INIT stores its operands, zeroes the cursor and the four slots, sets
`inited`, emits one `SetFormat` to the new transport, and leaves everything else. While a READ is in
flight it is the fault `Overlap(INIT)`. -/
def Obligations.InitCompletes : Prop :=
  ∀ (s : State) (t : TransportId) (c : LineId),
    (s.cs = .high → exec (.init t c) s = .next
      { s with tp := t, csid := c, cursor := 0#2, hist := ⟨0#13, 0#13, 0#13, 0#13⟩, inited := true,
               trace := s.trace ++ [.setFormat t 16 .idleHigh .secondEdge .msbFirst] }) ∧
    (s.cs = .low → exec (.init t c) s = .fault (.overlap .init))

/-- R121: the start step of READ, its two checks in order, the line driven low, the exchange
issued with the outbound word 0, and nothing else changed. -/
def Obligations.ReadStartCompletes : Prop :=
  ∀ s : State,
    (s.cs = .low → exec .read s = .fault (.overlap .read)) ∧
    (s.cs = .high → s.inited = false → exec .read s = .fault .notInitialized) ∧
    (s.cs = .high → s.inited = true → exec .read s = .next
      { s with cs := .low, trace := s.trace ++ [.setLine s.csid .low, .exchangeStart s.tp 0x0000#16] })

/-- R123: the finish step of READ. It runs when the line is low and the transport answers, with the
whole effect the rule's pseudocode gives, and no other step records an `ExchangeDone`. That the
transport's answer is the head of `answers` with nothing left to wait is the model's, log entry 4. -/
def Obligations.ReadFinishCompletes : Prop :=
  (∀ (s : State) (w : BusWord) (rest : List Answer), s.cs = .low → s.answers = ⟨0, w⟩ :: rest →
    ∃ (h : Hist) (sum : BitVec 15) (avg : BitVec 13) (temp : BitVec 11),
      (∀ i : SlotIndex, h.get i = if i = s.cursor then (w >>> 3).setWidth 13 else s.hist.get i) ∧
      sum = (h.get 0#2).setWidth 15 + (h.get 1#2).setWidth 15 + (h.get 2#2).setWidth 15 +
        (h.get 3#2).setWidth 15 ∧
      avg = (sum >>> 2).setWidth 13 ∧ temp = (avg >>> 2).setWidth 11 ∧
      step s = .next
        { s with cs := .high, hist := h, cursor := s.cursor + 1#2, answers := rest,
                 trace := s.trace ++ [.exchangeDone s.tp w, .setLine s.csid .high, .returned temp] }) ∧
  (∀ s t : State, step s = .next t → ∀ (tp : TransportId) (w : BusWord),
    t.trace.count (.exchangeDone tp w) ≠ s.trace.count (.exchangeDone tp w) →
      s.cs = .low ∧ ∃ rest, s.answers = ⟨0, w⟩ :: rest)

/-- R184: the reserved code is the fault `ReservedCommand` in every state, and nothing else is. -/
def Obligations.ReservedCodeFaults : Prop :=
  ∀ (s : State) (p : Command),
    exec (decode p) s = .fault .reservedCommand ↔ p.cmd = 0b11#2

/-- R183: INIT or READ presented while `cs = LOW` is the fault `Overlap` of that command, and
nothing else is. -/
def Obligations.OverlapFaults : Prop :=
  ∀ (s : State) (p : Command) (op : Op),
    exec (decode p) s = .fault (.overlap op) ↔
      s.cs = .low ∧ p.cmd = (match op with | .init => 0b01#2 | .read => 0b10#2)

/-- R182, R185: a READ presented with the line high and no INIT behind it is the fault
`NotInitialized`, and nothing else is. -/
def Obligations.ReadBeforeInitFaults : Prop :=
  ∀ (s : State) (p : Command),
    exec (decode p) s = .fault .notInitialized ↔
      p.cmd = 0b10#2 ∧ s.cs = .high ∧ s.inited = false

/-- R185: if the answer comes first the READ finishes and the command is judged on the new state,
and if a command comes first it faults. That the wait of the head of `answers` says which comes
first is the model's, log entry 4. -/
def Obligations.AnswerAndCommandInEitherOrder : Prop :=
  ∀ (s : State) (p : Command) (ps : List Command) (w : BusWord) (n : Nat) (rest : List Answer),
    s.cs = .low → s.port = p :: ps → p.cmd = 0b10#2 ∨ p.cmd = 0b01#2 →
    (s.answers = ⟨0, w⟩ :: rest → ∃ t, step s = .next t ∧ t.cs = .high ∧ t.port = p :: ps ∧
      step t = exec (decode p) { t with port := ps }) ∧
    (s.answers = ⟨n + 1, w⟩ :: rest →
      step s = .fault (.overlap (if p.cmd = 0b01#2 then .init else .read)))

/-! ## READ as a whole -/

/-- R126, R122: a READ presented to an idle, initialized block whose transport answers after any
wait, the caller presenting no further command meanwhile, finishes one step after the wait with the
history, cursor, result and trace that the rules give, and leaves `tp`, `csid`, `inited`, `cs`. How
`port` and `answers` are used up is the model's, log entries 3 and 4. -/
def Obligations.AnsweredReadCompletes : Prop :=
  ∀ (n : Nat) (s : State) (p : Command) (ps : List Command) (w : BusWord) (rest : List Answer),
    s.inited = true → s.cs = .high → s.port = p :: ps → p.cmd = 0b10#2 →
    (∀ q ∈ ps, q.cmd = 0b00#2) → s.answers = ⟨n, w⟩ :: rest →
    ∃ (t : State) (temp : BitVec 11), runSteps (n + 2) s = .next t ∧
      (∀ i : SlotIndex, t.hist.get i = if i = s.cursor then (w >>> 3).setWidth 13 else s.hist.get i) ∧
      t.cursor.toNat = (s.cursor.toNat + 1) % 4 ∧
      t.tp = s.tp ∧ t.csid = s.csid ∧ t.inited = s.inited ∧ t.cs = s.cs ∧
      t.port = ps.drop n ∧ t.answers = rest ∧
      t.trace = s.trace ++ [.setLine s.csid .low, .exchangeStart s.tp 0x0000#16,
        .exchangeDone s.tp w, .setLine s.csid .high, .returned temp] ∧
      temp.toNat = ((t.hist.get 0#2).toNat + (t.hist.get 1#2).toNat + (t.hist.get 2#2).toNat +
        (t.hist.get 3#2).toNat) / 16

/-- R124, R189, R223: if the transport never answers and the caller presents no command, the block
stays as it is for ever, with the line low, neither finished nor faulted. That the wait is a run of
IDLE steps is the model's, log entry 5. -/
def Obligations.HungBusHoldsTheLine : Prop :=
  ∀ (n : Nat) (s : State), s.cs = .low → s.answers = [] → (∀ p ∈ s.port, p.cmd = 0b00#2) →
    runSteps n s = .next { s with port := s.port.drop n }

/-- R124: only the transport can end the wait. While a READ waits, a step either is its finish, on
an answer that is due, or leaves the block's state and the trace as they are. When an answer is due is
the model's, log entry 4. -/
def Obligations.OnlyTheTransportEndsTheWait : Prop :=
  ∀ s t : State, s.cs = .low → step s = .next t →
    (t.cs = .high ∧ ∃ w rest, s.answers = ⟨0, w⟩ :: rest) ∨
    ((∀ w rest, s.answers ≠ ⟨0, w⟩ :: rest) ∧
      t = { s with port := s.port.tail, answers := t.answers })

/-! ## The data path -/

/-- R141, R142: the decode is the shift right by 3, `{rsv, mag}`, with bit 15 passed through. -/
def Obligations.DecodeShiftsWithoutMask : Prop :=
  ∀ w : BusWord,
    decodeReading w = (w >>> 3).setWidth 13 ∧
    (decodeReading w).toNat = w.toNat / 8 ∧
    (decodeReading w).toNat = 4096 * (Reading.ofWord w).rsv.toNat + (Reading.ofWord w).mag.toNat ∧
    (w.getLsbD 15 = true → 4096 ≤ (decodeReading w).toNat) ∧
    (w.getLsbD 15 = false → (decodeReading w).toNat ≤ 4095)

/-- R146: the decode is monotone, and every value is the decode of exactly eight words. -/
def Obligations.DecodeMonotoneAndEightToOne : Prop :=
  (∀ w₁ w₂ : BusWord, w₁.toNat ≤ w₂.toNat → (decodeReading w₁).toNat ≤ (decodeReading w₂).toNat) ∧
  (∀ d : SlotWord, ∃ ws : List BusWord, ws.Nodup ∧ ws.length = 8 ∧
    ∀ w, w ∈ ws ↔ decodeReading w = d)

/-- R151, R152: INSERT writes the slot under the cursor, leaves the other three, and then advances
the cursor modulo 4. It changes nothing else. -/
def Obligations.InsertWritesOneSlot : Prop :=
  ∀ (s : State) (d : SlotWord),
    (s.insertDecoded d).hist.get s.cursor = d ∧
    (∀ i, i ≠ s.cursor → (s.insertDecoded d).hist.get i = s.hist.get i) ∧
    (s.insertDecoded d).cursor.toNat = (s.cursor.toNat + 1) % 4 ∧
    { s.insertDecoded d with hist := s.hist, cursor := s.cursor } = s

/-- R156, R157: the sum of the four slots is exact and at most 32764, and the average is the sum
divided by 4, truncated. With every slot at most 4095 they are at most 16380 and 4095. -/
def Obligations.AverageOfExactSum : Prop :=
  ∀ s : State,
    s.slotSum.toNat = (s.hist.get 0#2).toNat + (s.hist.get 1#2).toNat + (s.hist.get 2#2).toNat +
      (s.hist.get 3#2).toNat ∧
    s.slotSum.toNat ≤ 32764 ∧
    (average s.slotSum).toNat = s.slotSum.toNat / 4 ∧
    average s.slotSum = s.slotSum.extractLsb' 2 13 ∧
    ((∀ i, (s.hist.get i).toNat ≤ 4095) →
      s.slotSum.toNat ≤ 16380 ∧ (average s.slotSum).toNat ≤ 4095)

/-- R171: the result is the average multiplied by 1023.75 / 4095, that is by 0.25, truncated, and
that is the average shifted right by 2. -/
def Obligations.ScaleEqualsMultiplication : Prop :=
  ∀ a : AvgWord,
    ((scale a).toNat : ℤ) = ⌊(a.toNat : ℚ) * (1023.75 / 4095)⌋ ∧
    ((scale a).toNat : ℤ) = ⌊(a.toNat : ℚ) * 0.25⌋ ∧
    (scale a).toNat = a.toNat * 1023 / 4092 ∧
    scale a = (a >>> 2).setWidth 11

/-- R127, R174, R142, R221: the result is at most 2047, and at most 1023 when no slot exceeds 4095. A
malformed word `w` with bit 15 set, against the same word with it clear, raises the average by 1024
and the result by 256, whichever slot its decode is in and whatever the other slots hold. -/
def Obligations.ResultRangeAndMalformedWord : Prop :=
  ∀ s : State,
    s.temperature.toNat ≤ 2047 ∧
    ((∀ i, (s.hist.get i).toNat ≤ 4095) → s.temperature.toNat ≤ 1023) ∧
    ∀ (i : SlotIndex) (w : BusWord), w.getLsbD 15 = false →
      (average (s.writeSlot i (decodeReading (w ||| 0x8000#16))).slotSum).toNat =
        (average (s.writeSlot i (decodeReading w)).slotSum).toNat + 1024 ∧
      (s.writeSlot i (decodeReading (w ||| 0x8000#16))).temperature.toNat =
        (s.writeSlot i (decodeReading w)).temperature.toNat + 256

/-- R159, R220: with the same word `w` at every READ since INIT, the four slots give `floor(k d/16)`
after `k` READs, `k` counted up to 4. -/
def Obligations.SteadyInputWarmsUp : Prop :=
  ∀ (s : State) (k : Nat) (w : BusWord), s.HistoryHolds (List.replicate k w) →
    s.temperature.toNat = min k 4 * (w.toNat / 8) / 16

/-! ## Frames and whole-machine rules -/

/-- R20, R22, R62: what a command leaves alone. IDLE changes nothing. INIT leaves `cs`. READ's
start leaves the history, the cursor, the references and `inited`. Every command leaves what the
other agents will do. -/
def Obligations.CommandFrames : Prop :=
  ∀ (i : Instr) (s t : State), exec i s = .next t →
    t.port = s.port ∧ t.answers = s.answers ∧
    (i ≠ .read → t.cs = s.cs) ∧
    ((∀ tp c, i ≠ .init tp c) → (∀ j, t.hist.get j = s.hist.get j) ∧ t.cursor = s.cursor ∧
      t.tp = s.tp ∧ t.csid = s.csid ∧ t.inited = s.inited) ∧
    (i = .idle → t.trace = s.trace)

/-- R22, R25, R26, R27: the only writers. Over any step, the references and `inited` change only
where INIT is presented with the line high, `inited` is never cleared, and a slot or the cursor
changes only there or in READ's finish, which changes no slot but the one under the cursor. -/
def Obligations.OnlyInitAndFinishWriteState : Prop :=
  ∀ s t : State, step s = .next t →
    (t.inited = false → s.inited = false) ∧
    (t.tp ≠ s.tp ∨ t.csid ≠ s.csid ∨ t.inited ≠ s.inited →
      s.cs = .high ∧ ∃ tp c, decode s.presented = .init tp c ∧ t.tp = tp ∧ t.csid = c) ∧
    (t.hist ≠ s.hist ∨ t.cursor ≠ s.cursor →
      (s.cs = .high ∧ ∃ tp c, decode s.presented = .init tp c) ∨
      (s.cs = .low ∧ t.cs = .high ∧ t.cursor = s.cursor + 1#2 ∧
        ∀ i, i ≠ s.cursor → t.hist.get i = s.hist.get i))

/-- R65, R112, R122: the trace only grows, and a step appends nothing, or INIT's one event, or the
two events of READ's start, or the three of its finish. -/
def Obligations.TraceGrowsByWholeGroups : Prop :=
  ∀ s t : State, step s = .next t → ∃ es, t.trace = s.trace ++ es ∧
    (es = [] ∨ es = [.setFormat t.tp 16 .idleHigh .secondEdge .msbFirst] ∨
      es = [.setLine s.csid .low, .exchangeStart s.tp 0x0000#16] ∨
      ∃ w temp, es = [.exchangeDone s.tp w, .setLine s.csid .high, .returned temp])

/-- R182, R183, R184: no step is refused, and a step faults only for one of the three reasons. That a
command faults only where no answer is due, a due answer going first, is the model's choice at a point
that R185 leaves open, log entry 4. -/
def Obligations.NothingIsRefused : Prop :=
  ∀ s : State, (∃ t, step s = .next t) ∨
    (s.answerDue = none ∧ step s = .fault .reservedCommand ∧ s.presented.cmd = 0b11#2) ∨
    (s.answerDue = none ∧ s.cs = .low ∧ step s = .fault (.overlap .init) ∧ s.presented.cmd = 0b01#2) ∨
    (s.answerDue = none ∧ s.cs = .low ∧ step s = .fault (.overlap .read) ∧ s.presented.cmd = 0b10#2) ∨
    (s.cs = .high ∧ s.inited = false ∧ step s = .fault .notInitialized ∧ s.presented.cmd = 0b10#2)

/-- R215, R217: with an INIT behind it, a caller that never presents the reserved code and a
transport that answers every exchange before the caller's next command make a run that never
stops. `port` and `answers` stand for them as log entries 3 and 4 say. -/
def Obligations.DisciplinedRunsNeverFault : Prop :=
  ∀ (n : Nat) (s : State), s.keepsDiscipline → ∃ t, runSteps n s = .next t ∧ t.keepsDiscipline

/-- R65, R33: no rule reads the trace. A run with more events before it does the same and has the
same events before it. -/
def Obligations.TraceIsNeverRead : Prop :=
  ∀ (n : Nat) (s : State) (before : List Event),
    runSteps n { s with trace := before ++ s.trace } =
      mapNext (fun t => { t with trace := before ++ t.trace }) (runSteps n s)

/-- R7, R26: the block stores and passes on its two references and never inspects them. Renaming
them renames the outcome. -/
def Obligations.TokensAreNeverInspected : Prop :=
  ∀ (f : TransportId → TransportId) (g : LineId → LineId) (n : Nat) (s : State),
    runSteps n (s.rename f g) = mapNext (State.rename f g) (runSteps n s)

/-- R143, R181: the fault, id and undefined bits of the received words make no difference. Clearing
them in every word, past and to come, clears them in the outcome's and changes nothing else. -/
def Obligations.DiscardedBitsMakeNoDifference : Prop :=
  ∀ (n : Nat) (s : State), runSteps n s.maskLow = mapNext State.maskLow (runSteps n s)

/-! ## Reset and the invariants -/

/-- R211: after power-on the line is high, no INIT has happened, and no event has been emitted. -/
def Obligations.PowerOnState : Prop :=
  State.reset.cs = .high ∧ State.reset.inited = false ∧ State.reset.trace = []

/-- R213, R90: an idle block waits for a command. With the line high and only IDLE presented, nothing
changes, for as long as that lasts, whatever the transport could answer. After power-on the line is
high and no command is presented. How `port` is used up is the model's, log entry 3. -/
def Obligations.IdleBlockWaitsForCommand : Prop :=
  ∀ (n : Nat) (s : State), s.cs = .high → (∀ p ∈ s.port, p.cmd = 0b00#2) →
    runSteps n s = .next { s with port := s.port.drop n }

/-- R212: the four fields without a power-on value are never read. Whatever they hold while no INIT
has completed, the run stops in the same way, or goes on to states that agree once an INIT has
completed and until then differ in those fields only. -/
def Obligations.PowerOnFieldsAreNeverRead : Prop :=
  ∀ (n : Nat) (s : State) (h : Hist) (k : SlotIndex) (t : TransportId) (c : LineId),
    s.inited = false → s.cs = .high →
    outcomesAgree State.agreesButUnset (runSteps n s)
      (runSteps n { s with hist := h, cursor := k, tp := t, csid := c })

/-- R115, R216: INIT forgets. From any two states with the line high and the same caller and
transport before them, INIT with the same operands gives states that differ only in the trace
behind them, and every run from there does the same in both. -/
def Obligations.ReinitializationForgets : Prop :=
  ∀ (s₁ s₂ : State) (t : TransportId) (c : LineId), s₁.cs = .high → s₂.cs = .high →
    s₁.port = s₂.port → s₁.answers = s₂.answers →
    ∃ u : State, u.trace = [.setFormat t 16 .idleHigh .secondEdge .msbFirst] ∧
      ∀ s, s = s₁ ∨ s = s₂ →
        exec (.init t c) s = .next { u with trace := s.trace ++ u.trace } ∧
        ∀ n, runSteps n { u with trace := s.trace ++ u.trace } =
          mapNext (fun v => { v with trace := s.trace ++ v.trace }) (runSteps n u)

/-- R185, R35.1, R35.3, R35.4, R35.5, R65: the four invariants below hold after power-on. -/
def Obligations.PowerOnMeetsInvariants : Prop :=
  State.reset.BusyInitialized ∧ State.reset.ChipSelectDiscipline ∧ State.reset.HistoryTracksTrace ∧
    State.reset.ComputesAverages ∧ State.reset.WellFormedRange

/-- R185: `cs = LOW` implies that a READ started, which implies `inited = 1`. Every step keeps it. -/
def Obligations.StepKeepsBusyInitialized : Prop :=
  ∀ s t : State, s.BusyInitialized → step s = .next t → t.BusyInitialized

/-- R65, R122, R35.1: every step keeps the chip-select discipline. In the trace each READ is one
assert, one exchange with the stored transport strictly between, one deassert of the same line and
one result, with no overlap, and `cs` is LOW exactly while the exchange is in flight. -/
def Obligations.StepKeepsChipSelectDiscipline : Prop :=
  ∀ s t : State, s.ChipSelectDiscipline → step s = .next t → t.ChipSelectDiscipline

/-- R35 items 3 and 4, R153: every step keeps the history equal to the words received since the
last INIT. -/
def Obligations.StepKeepsHistory : Prop :=
  ∀ s t : State, s.HistoryTracksTrace → step s = .next t → t.HistoryTracksTrace

/-- R126, R156 to R159, R171, and the source's first property (95_test_vectors.md S1, S2): every
step keeps it that each result in the trace is the moving average of the last four words received
since INIT, absent ones counted as 0. -/
def Obligations.StepKeepsReturningAverages : Prop :=
  ∀ s t : State, s.ComputesAverages → step s = .next t → t.ComputesAverages

/-- R35 item 5: every step keeps it that well-formed words alone leave slots of at most 4095. -/
def Obligations.StepKeepsWellFormedRange : Prop :=
  ∀ s t : State, s.WellFormedRange → step s = .next t → t.WellFormedRange
end

