-- ==== Sys2Proof/Laws/State.lean ====
section
/-! SUPPORT. What each named update does to each field of the state: one lemma per field per update,
so that no proof unfolds a record update. -/

namespace Sys2Proof.Machine

open Sys2Proof

variable (s : State)

/-! `State.writeSlot` (R151). -/

@[simp] theorem State.writeSlot_hist (i : SlotIndex) (d : SlotWord) : (s.writeSlot i d).hist = s.hist.set i d := rfl
@[simp] theorem State.writeSlot_cursor (i : SlotIndex) (d : SlotWord) : (s.writeSlot i d).cursor = s.cursor := rfl
@[simp] theorem State.writeSlot_tp (i : SlotIndex) (d : SlotWord) : (s.writeSlot i d).tp = s.tp := rfl
@[simp] theorem State.writeSlot_csid (i : SlotIndex) (d : SlotWord) : (s.writeSlot i d).csid = s.csid := rfl
@[simp] theorem State.writeSlot_cs (i : SlotIndex) (d : SlotWord) : (s.writeSlot i d).cs = s.cs := rfl
@[simp] theorem State.writeSlot_inited (i : SlotIndex) (d : SlotWord) : (s.writeSlot i d).inited = s.inited := rfl
@[simp] theorem State.writeSlot_trace (i : SlotIndex) (d : SlotWord) : (s.writeSlot i d).trace = s.trace := rfl
@[simp] theorem State.writeSlot_port (i : SlotIndex) (d : SlotWord) : (s.writeSlot i d).port = s.port := rfl
@[simp] theorem State.writeSlot_answers (i : SlotIndex) (d : SlotWord) : (s.writeSlot i d).answers = s.answers := rfl

/-! `State.advanceCursor` (R152). -/

@[simp] theorem State.advanceCursor_hist : (s.advanceCursor).hist = s.hist := rfl
@[simp] theorem State.advanceCursor_cursor : (s.advanceCursor).cursor = s.cursor + 1#2 := rfl
@[simp] theorem State.advanceCursor_tp : (s.advanceCursor).tp = s.tp := rfl
@[simp] theorem State.advanceCursor_csid : (s.advanceCursor).csid = s.csid := rfl
@[simp] theorem State.advanceCursor_cs : (s.advanceCursor).cs = s.cs := rfl
@[simp] theorem State.advanceCursor_inited : (s.advanceCursor).inited = s.inited := rfl
@[simp] theorem State.advanceCursor_trace : (s.advanceCursor).trace = s.trace := rfl
@[simp] theorem State.advanceCursor_port : (s.advanceCursor).port = s.port := rfl
@[simp] theorem State.advanceCursor_answers : (s.advanceCursor).answers = s.answers := rfl

/-! `State.emit` (R65). -/

@[simp] theorem State.emit_hist (e : Event) : (s.emit e).hist = s.hist := rfl
@[simp] theorem State.emit_cursor (e : Event) : (s.emit e).cursor = s.cursor := rfl
@[simp] theorem State.emit_tp (e : Event) : (s.emit e).tp = s.tp := rfl
@[simp] theorem State.emit_csid (e : Event) : (s.emit e).csid = s.csid := rfl
@[simp] theorem State.emit_cs (e : Event) : (s.emit e).cs = s.cs := rfl
@[simp] theorem State.emit_inited (e : Event) : (s.emit e).inited = s.inited := rfl
@[simp] theorem State.emit_trace (e : Event) : (s.emit e).trace = s.trace ++ [e] := rfl
@[simp] theorem State.emit_port (e : Event) : (s.emit e).port = s.port := rfl
@[simp] theorem State.emit_answers (e : Event) : (s.emit e).answers = s.answers := rfl

/-! `State.driveLine` (R28, R61). -/

@[simp] theorem State.driveLine_hist (l : Level) : (s.driveLine l).hist = s.hist := rfl
@[simp] theorem State.driveLine_cursor (l : Level) : (s.driveLine l).cursor = s.cursor := rfl
@[simp] theorem State.driveLine_tp (l : Level) : (s.driveLine l).tp = s.tp := rfl
@[simp] theorem State.driveLine_csid (l : Level) : (s.driveLine l).csid = s.csid := rfl
@[simp] theorem State.driveLine_cs (l : Level) : (s.driveLine l).cs = l := rfl
@[simp] theorem State.driveLine_inited (l : Level) : (s.driveLine l).inited = s.inited := rfl
@[simp] theorem State.driveLine_trace (l : Level) : (s.driveLine l).trace = s.trace ++ [.setLine s.csid l] := rfl
@[simp] theorem State.driveLine_port (l : Level) : (s.driveLine l).port = s.port := rfl
@[simp] theorem State.driveLine_answers (l : Level) : (s.driveLine l).answers = s.answers := rfl

/-! `State.dropAnswer` (R61). -/

@[simp] theorem State.dropAnswer_hist : (s.dropAnswer).hist = s.hist := rfl
@[simp] theorem State.dropAnswer_cursor : (s.dropAnswer).cursor = s.cursor := rfl
@[simp] theorem State.dropAnswer_tp : (s.dropAnswer).tp = s.tp := rfl
@[simp] theorem State.dropAnswer_csid : (s.dropAnswer).csid = s.csid := rfl
@[simp] theorem State.dropAnswer_cs : (s.dropAnswer).cs = s.cs := rfl
@[simp] theorem State.dropAnswer_inited : (s.dropAnswer).inited = s.inited := rfl
@[simp] theorem State.dropAnswer_trace : (s.dropAnswer).trace = s.trace := rfl
@[simp] theorem State.dropAnswer_port : (s.dropAnswer).port = s.port := rfl
@[simp] theorem State.dropAnswer_answers : (s.dropAnswer).answers = s.answers.tail := rfl

/-! `State.insertDecoded` (R150). -/

@[simp] theorem State.insertDecoded_hist (d : SlotWord) : (s.insertDecoded d).hist = s.hist.set s.cursor d := rfl
@[simp] theorem State.insertDecoded_cursor (d : SlotWord) : (s.insertDecoded d).cursor = s.cursor + 1#2 := rfl
@[simp] theorem State.insertDecoded_tp (d : SlotWord) : (s.insertDecoded d).tp = s.tp := rfl
@[simp] theorem State.insertDecoded_csid (d : SlotWord) : (s.insertDecoded d).csid = s.csid := rfl
@[simp] theorem State.insertDecoded_cs (d : SlotWord) : (s.insertDecoded d).cs = s.cs := rfl
@[simp] theorem State.insertDecoded_inited (d : SlotWord) : (s.insertDecoded d).inited = s.inited := rfl
@[simp] theorem State.insertDecoded_trace (d : SlotWord) : (s.insertDecoded d).trace = s.trace := rfl
@[simp] theorem State.insertDecoded_port (d : SlotWord) : (s.insertDecoded d).port = s.port := rfl
@[simp] theorem State.insertDecoded_answers (d : SlotWord) : (s.insertDecoded d).answers = s.answers := rfl

/-! `State.initialized` (R111, R112). -/

@[simp] theorem State.initialized_hist (t : TransportId) (c : LineId) : (s.initialized t c).hist = Hist.zero := rfl
@[simp] theorem State.initialized_cursor (t : TransportId) (c : LineId) : (s.initialized t c).cursor = 0#2 := rfl
@[simp] theorem State.initialized_tp (t : TransportId) (c : LineId) : (s.initialized t c).tp = t := rfl
@[simp] theorem State.initialized_csid (t : TransportId) (c : LineId) : (s.initialized t c).csid = c := rfl
@[simp] theorem State.initialized_cs (t : TransportId) (c : LineId) : (s.initialized t c).cs = s.cs := rfl
@[simp] theorem State.initialized_inited (t : TransportId) (c : LineId) : (s.initialized t c).inited = true := rfl
@[simp] theorem State.initialized_trace (t : TransportId) (c : LineId) : (s.initialized t c).trace = s.trace ++ [.setFormat t 16 .idleHigh .secondEdge .msbFirst] := rfl
@[simp] theorem State.initialized_port (t : TransportId) (c : LineId) : (s.initialized t c).port = s.port := rfl
@[simp] theorem State.initialized_answers (t : TransportId) (c : LineId) : (s.initialized t c).answers = s.answers := rfl

/-! `State.readStarted` (R121). -/

@[simp] theorem State.readStarted_hist : (s.readStarted).hist = s.hist := rfl
@[simp] theorem State.readStarted_cursor : (s.readStarted).cursor = s.cursor := rfl
@[simp] theorem State.readStarted_tp : (s.readStarted).tp = s.tp := rfl
@[simp] theorem State.readStarted_csid : (s.readStarted).csid = s.csid := rfl
@[simp] theorem State.readStarted_cs : (s.readStarted).cs = .low := rfl
@[simp] theorem State.readStarted_inited : (s.readStarted).inited = s.inited := rfl
@[simp] theorem State.readStarted_port : (s.readStarted).port = s.port := rfl
@[simp] theorem State.readStarted_answers : (s.readStarted).answers = s.answers := rfl

/-! `State.readFinished` (R123). -/

@[simp] theorem State.readFinished_hist (w : BusWord) : (s.readFinished w).hist = s.hist.set s.cursor (decodeReading w) := rfl
@[simp] theorem State.readFinished_cursor (w : BusWord) : (s.readFinished w).cursor = s.cursor + 1#2 := rfl
@[simp] theorem State.readFinished_tp (w : BusWord) : (s.readFinished w).tp = s.tp := rfl
@[simp] theorem State.readFinished_csid (w : BusWord) : (s.readFinished w).csid = s.csid := rfl
@[simp] theorem State.readFinished_cs (w : BusWord) : (s.readFinished w).cs = .high := rfl
@[simp] theorem State.readFinished_inited (w : BusWord) : (s.readFinished w).inited = s.inited := rfl
@[simp] theorem State.readFinished_port (w : BusWord) : (s.readFinished w).port = s.port := rfl
@[simp] theorem State.readFinished_answers (w : BusWord) : (s.readFinished w).answers = s.answers := rfl

@[simp] theorem State.readStarted_trace : s.readStarted.trace =
    s.trace ++ [.setLine s.csid .low, .exchangeStart s.tp 0x0000#16] := by
  simp [State.readStarted, Config.wordOut]

@[simp] theorem State.readFinished_trace (w : BusWord) : (s.readFinished w).trace =
    s.trace ++ [.exchangeDone s.tp w, .setLine s.csid .high,
      .returned (s.insertDecoded (decodeReading w)).temperature] := by
  simp only [State.readFinished, State.emit_trace, State.insertDecoded_trace, State.driveLine_trace,
    List.append_assoc, List.cons_append, List.nil_append]
  rfl

/-! `State.afterPort`: only the port and the answers move. -/

@[simp] theorem State.afterPort_hist : s.afterPort.hist = s.hist := by
  unfold State.afterPort; split <;> rfl
@[simp] theorem State.afterPort_cursor : s.afterPort.cursor = s.cursor := by
  unfold State.afterPort; split <;> rfl
@[simp] theorem State.afterPort_tp : s.afterPort.tp = s.tp := by
  unfold State.afterPort; split <;> rfl
@[simp] theorem State.afterPort_csid : s.afterPort.csid = s.csid := by
  unfold State.afterPort; split <;> rfl
@[simp] theorem State.afterPort_cs : s.afterPort.cs = s.cs := by
  unfold State.afterPort; split <;> rfl
@[simp] theorem State.afterPort_inited : s.afterPort.inited = s.inited := by
  unfold State.afterPort; split <;> rfl
@[simp] theorem State.afterPort_trace : s.afterPort.trace = s.trace := by
  unfold State.afterPort; split <;> rfl

@[simp] theorem State.afterPort_port : s.afterPort.port = s.port.tail := by
  unfold State.afterPort; split <;> rfl

end Sys2Proof.Machine
end

