-- ==== Sys2Proof/Laws/Ops.lean ====
section
/-! SUPPORT. What the shared operations do: the laws of the slots, when an answer is due, and what
executing a command leaves of the port and the answers. -/

namespace Sys2Proof.Machine

open Sys2Proof

/-! ## Tokens (R7) -/

/-- A transport token is its name. -/
theorem TransportId.eq_of_name {t u : TransportId} (h : t.name = u.name) : t = u := by
  cases t; cases u; cases h; rfl

/-- A line token is its name. -/
theorem LineId.eq_of_name {c d : LineId} (h : c.name = d.name) : c = d := by
  cases c; cases d; cases h; rfl

/-! ## Slots (R50) -/

/-- An index is one of the four. -/
theorem slotIndex_cases (i : SlotIndex) : i = 0#2 ∨ i = 1#2 ∨ i = 2#2 ∨ i = 3#2 := by
  revert i; decide

@[simp] theorem Hist.get_zero_index (h : Hist) : h.get 0#2 = h.slot0 := rfl
@[simp] theorem Hist.get_one_index (h : Hist) : h.get 1#2 = h.slot1 := rfl
@[simp] theorem Hist.get_two_index (h : Hist) : h.get 2#2 = h.slot2 := rfl
@[simp] theorem Hist.get_three_index (h : Hist) : h.get 3#2 = h.slot3 := rfl

/-- A slot reads back what was written to it (R68). -/
theorem Hist.get_set_same (h : Hist) (i : SlotIndex) (d : SlotWord) : (h.set i d).get i = d := by
  rcases slotIndex_cases i with rfl | rfl | rfl | rfl <;> rfl

/-- A write leaves the other slots (R151). -/
theorem Hist.get_set_other (h : Hist) {i j : SlotIndex} (d : SlotWord) (hne : j ≠ i) :
    (h.set i d).get j = h.get j := by
  rcases slotIndex_cases i with rfl | rfl | rfl | rfl <;>
    rcases slotIndex_cases j with rfl | rfl | rfl | rfl <;>
    first | rfl | exact absurd rfl hne

theorem Hist.get_set (h : Hist) (i j : SlotIndex) (d : SlotWord) :
    (h.set i d).get j = if j = i then d else h.get j := by
  split
  · next heq => rw [heq, h.get_set_same]
  · next hne => exact h.get_set_other d hne

theorem Hist.get_zero (i : SlotIndex) : Hist.zero.get i = 0#13 := by
  rcases slotIndex_cases i with rfl | rfl | rfl | rfl <;> rfl

/-- Four equal slots make equal histories. -/
theorem Hist.ext_get {h k : Hist} (heq : ∀ i, h.get i = k.get i) : h = k := by
  cases h; cases k
  congr
  · exact heq 0#2
  · exact heq 1#2
  · exact heq 2#2
  · exact heq 3#2

/-- The cursor counts modulo 4 (R152). -/
theorem cursor_succ_toNat (c : SlotIndex) : (c + 1#2).toNat = (c.toNat + 1) % 4 := by
  revert c; decide

/-! ## Answers and the port -/

/-- An answer is due exactly when an exchange is outstanding and the wait is over (R123). -/
theorem State.answerDue_eq_some {s : State} {w : BusWord} :
    s.answerDue = some w ↔ s.cs = .low ∧ ∃ rest, s.answers = ⟨0, w⟩ :: rest := by
  unfold State.answerDue
  split
  · next w' rest hc ha => simp [hc, ha]
  · next hno =>
    constructor
    · intro h; cases h
    · rintro ⟨hc, rest, ha⟩; exact (hno w rest hc ha).elim

/-- With the line high no answer is due. -/
theorem State.answerDue_of_high {s : State} (h : s.cs = .high) : s.answerDue = none := by
  unfold State.answerDue; rw [h]

/-- A transport that never answers owes nothing (R124). -/
theorem State.answerDue_of_never {s : State} (h : s.answers = []) : s.answerDue = none := by
  unfold State.answerDue; rw [h]; cases s.cs <;> rfl

/-- A transport that waits owes nothing yet (R58). -/
theorem State.answerDue_of_wait {s : State} {n : Nat} {w : BusWord} {rest : List Answer}
    (h : s.answers = ⟨n + 1, w⟩ :: rest) : s.answerDue = none := by
  unfold State.answerDue; rw [h]; cases s.cs <;> rfl

theorem State.afterPort_of_high {s : State} (h : s.cs = .high) :
    s.afterPort = { s with port := s.port.tail } := by
  unfold State.afterPort; rw [h]

theorem State.afterPort_of_never {s : State} (h : s.answers = []) :
    s.afterPort = { s with port := s.port.tail } := by
  unfold State.afterPort; rw [h]; cases s.cs <;> rfl

theorem State.afterPort_of_wait {s : State} {n : Nat} {w : BusWord} {rest : List Answer}
    (hc : s.cs = .low) (h : s.answers = ⟨n + 1, w⟩ :: rest) :
    s.afterPort = { s with port := s.port.tail, answers := ⟨n, w⟩ :: rest } := by
  unfold State.afterPort; rw [hc, h]; rfl

/-- A command that the caller presents next is the next one executed. -/
theorem State.present_answerDue (s : State) (p : Command) : (s.present p).answerDue = none := by
  unfold State.present
  split
  · next a rest _ _ => exact State.answerDue_of_wait rfl
  · next hno =>
    show s.answerDue = none
    cases hd : s.answerDue with
    | none => rfl
    | some w =>
      obtain ⟨_, rest, ha⟩ := State.answerDue_eq_some.mp hd
      exact (hno w ⟨0, w⟩ rest hd ha).elim

@[simp] theorem State.present_presented (s : State) (p : Command) :
    (s.present p).presented = p := by
  unfold State.present; split <;> rfl

/-! ## Tests of `cs` and `inited` -/

@[simp] theorem level_ne_low {l : Level} : ¬ l = .low ↔ l = .high := by
  cases l <;> decide

@[simp] theorem level_ne_high {l : Level} : ¬ l = .high ↔ l = .low := by
  cases l <;> decide

@[simp] theorem State.busy_eq_true {s : State} : s.busy = true ↔ s.cs = .low := by
  simp [State.busy]

@[simp] theorem State.busy_eq_false {s : State} : s.busy = false ↔ s.cs = .high := by
  cases h : s.cs <;> simp [State.busy, h]

@[simp] theorem State.uninitialized_eq_true {s : State} :
    s.uninitialized = true ↔ s.inited = false := by
  simp [State.uninitialized]

@[simp] theorem State.uninitialized_eq_false {s : State} :
    s.uninitialized = false ↔ s.inited = true := by
  simp [State.uninitialized]

end Sys2Proof.Machine
end

