-- ==== Sys2Proof/Laws/DataPath.lean ====
section
/-! SUPPORT. The data path of READ in natural numbers: one lemma per stage. -/

namespace Sys2Proof.Machine

open Sys2Proof

/-- DECODE divides by 8 (R141). -/
theorem decodeReading_toNat (w : BusWord) : (decodeReading w).toNat = w.toNat / 8 := by
  simp only [decodeReading, BitVec.extractLsb'_toNat, Nat.shiftRight_eq_div_pow]
  omega

/-- The sum is exact (R156). -/
theorem State.slotSum_toNat (s : State) : s.slotSum.toNat =
    (s.hist.get 0#2).toNat + (s.hist.get 1#2).toNat + (s.hist.get 2#2).toNat +
      (s.hist.get 3#2).toNat := by
  simp only [State.slotSum, State.readSlot, BitVec.toNat_add, BitVec.toNat_setWidth]
  omega

/-- The average is the sum divided by 4, truncated (R157). -/
theorem average_toNat (sum : SumWord) : (average sum).toNat = sum.toNat / 4 := by
  simp only [average, BitVec.extractLsb'_toNat, Nat.shiftRight_eq_div_pow]
  omega

/-- SCALE divides by 4, truncated (R171). -/
theorem scale_toNat (avg : AvgWord) : (scale avg).toNat = avg.toNat / 4 := by
  simp only [scale, BitVec.extractLsb'_toNat, Nat.shiftRight_eq_div_pow]
  omega

end Sys2Proof.Machine
end

