-- ==== Sys2Proof/Laws/PerInstr.lean ====
section
/-! SUPPORT. Per row of the command map: the encoder presents the row's code, and the row is a
command exactly when its code is not the reserved one (R88, R91). -/

namespace Sys2Proof.Laws.PortCode

open Sys2Proof

def Statement (i : Instr) : Prop :=
  (encode i).cmd = i.code ∧ (i.wellFormed = true ↔ i.code ≠ 0b11#2)

theorem idle : Statement .idle := ⟨rfl, by decide⟩

theorem init (t : TransportId) (c : LineId) : Statement (.init t c) :=
  ⟨rfl, by simp [Instr.wellFormed, Instr.code]⟩

theorem read : Statement .read := ⟨rfl, by decide⟩

theorem reserved : Statement .reserved := ⟨rfl, by decide⟩

end Sys2Proof.Laws.PortCode
end

