-- ==== Sys2Proof/Laws/Step.lean ====
section
/-! SUPPORT. What a command, a step and a run can do, said once: inversion of `exec` and `step`, and
the unfolding of a run. -/

namespace Sys2Proof.Machine

open Sys2Proof

/-- A command that answers a next state did nothing, initialized, or started a READ. -/
theorem exec_next_cases {i : Instr} {s t : State} (h : exec i s = .next t) :
    (i = .idle ∧ t = s) ∨
    (∃ tp c, i = .init tp c ∧ s.cs = .high ∧ t = s.initialized tp c) ∨
    (i = .read ∧ s.cs = .high ∧ s.inited = true ∧ t = s.readStarted) := by
  cases i with
  | idle => left; cases h; exact ⟨rfl, rfl⟩
  | init tp c =>
    right; left
    change execInit tp c s = .next t at h
    unfold execInit at h
    split at h
    · cases h
    · next hb => cases h; exact ⟨tp, c, rfl, by simpa using hb, rfl⟩
  | read =>
    right; right
    change execRead s = .next t at h
    unfold execRead at h
    split at h
    · cases h
    · next hb =>
      split at h
      · cases h
      · next hu => cases h; exact ⟨rfl, by simpa using hb, by simpa using hu, rfl⟩
  | reserved => cases h

/-- A command that faults is the reserved code, a command that meets a READ in flight, or a READ
before any INIT. -/
theorem exec_fault_cases {i : Instr} {s : State} {f : Fault} (h : exec i s = .fault f) :
    (i = .reserved ∧ f = .reservedCommand) ∨
    (∃ tp c, i = .init tp c ∧ s.cs = .low ∧ f = .overlap .init) ∨
    (i = .read ∧ s.cs = .low ∧ f = .overlap .read) ∨
    (i = .read ∧ s.cs = .high ∧ s.inited = false ∧ f = .notInitialized) := by
  cases i with
  | idle => cases h
  | init tp c =>
    right; left
    change execInit tp c s = .fault f at h
    unfold execInit at h
    split at h
    · next hb => cases h; exact ⟨tp, c, rfl, by simpa using hb, rfl⟩
    · cases h
  | read =>
    right; right
    change execRead s = .fault f at h
    unfold execRead at h
    split at h
    · next hb => cases h; left; exact ⟨rfl, by simpa using hb, rfl⟩
    · next hb =>
      split at h
      · next hu => cases h; right; exact ⟨rfl, by simpa using hb, by simpa using hu, rfl⟩
      · cases h
  | reserved => left; cases h; exact ⟨rfl, rfl⟩

/-- The transport's turn. -/
theorem step_of_due {s : State} {w : BusWord} (h : s.answerDue = some w) :
    step s = .next (s.dropAnswer.readFinished w) := by
  unfold step; rw [h]

/-- The caller's turn. -/
theorem step_of_not_due {s : State} (h : s.answerDue = none) :
    step s = exec (decode s.presented) s.afterPort := by
  unfold step; rw [h]

/-- A step that answers a next state is one of the four transitions of R9. -/
theorem step_next_cases {s t : State} (h : step s = .next t) :
    (∃ w, s.answerDue = some w ∧ t = s.dropAnswer.readFinished w) ∨
    (s.answerDue = none ∧ decode s.presented = .idle ∧ t = s.afterPort) ∨
    (∃ tp c, s.answerDue = none ∧ decode s.presented = .init tp c ∧ s.cs = .high ∧
      t = s.afterPort.initialized tp c) ∨
    (s.answerDue = none ∧ decode s.presented = .read ∧ s.cs = .high ∧ s.inited = true ∧
      t = s.afterPort.readStarted) := by
  cases hd : s.answerDue with
  | some w =>
    rw [step_of_due hd] at h
    cases h
    exact .inl ⟨w, rfl, rfl⟩
  | none =>
    rw [step_of_not_due hd] at h
    obtain ⟨hi, rfl⟩ | ⟨tp, c, hi, hc, rfl⟩ | ⟨hi, hc, hn, rfl⟩ := exec_next_cases h
    · exact .inr (.inl ⟨rfl, hi, rfl⟩)
    · exact .inr (.inr (.inl ⟨tp, c, rfl, hi, by simpa using hc, rfl⟩))
    · exact .inr (.inr (.inr ⟨rfl, hi, by simpa using hc, by simpa using hn, rfl⟩))

theorem runSteps_zero (s : State) : runSteps 0 s = .next s := rfl

/-- A run whose first step answers a next state goes on from there. -/
theorem runSteps_succ_of_next {s t : State} (n : Nat) (h : step s = .next t) :
    runSteps (n + 1) s = runSteps n t := by
  have hc : Sys2Proof.core.step s = .next t := h
  simp only [runSteps, Host.Core.run, hc]
  rfl

/-- A run whose first step faults has faulted. -/
theorem runSteps_succ_of_fault {s : State} {f : Fault} (n : Nat) (h : step s = .fault f) :
    runSteps (n + 1) s = .fault f := by
  have hc : Sys2Proof.core.step s = .fault f := h
  simp only [runSteps, Host.Core.run, hc]
  rfl

end Sys2Proof.Machine
end

