-- ==== Sys2Proof/Laws/Trace.lean ====
section
/-! SUPPORT. How the functions of a trace read one more event. -/

namespace Sys2Proof.Machine

open Sys2Proof

@[simp] theorem wordsSinceInit_nil : wordsSinceInit [] = [] := rfl

theorem wordsSinceInit_append (tr es : List Event) :
    wordsSinceInit (tr ++ es) = es.foldl wordsAfter (wordsSinceInit tr) := by
  unfold wordsSinceInit; rw [List.foldl_append]

@[simp] theorem busPhase_nil : busPhase [] = some .quiet := rfl

theorem busPhase_append (tr es : List Event) :
    busPhase (tr ++ es) = es.foldl (fun phase e => phase.bind fun p => p.after e) (busPhase tr) := by
  unfold busPhase; rw [List.foldl_append]

end Sys2Proof.Machine
end

