-- ==== Sys2Proof/Tests/Slice0.lean ====
section
/-! SUPPORT. Checks on fixed values. The expected values come from 95_test_vectors.md and from the
worked examples and encodings of the spec. After them, for every statement with hypotheses, a
witness that meets them. -/

namespace Sys2Proof.Tests

open Sys2Proof Sys2Proof.Machine

/-- The next state of an outcome, if it has one. -/
def nextOf : Host.Outcome State Fault Refusal → Option State
  | .next s => some s
  | .fault _ => none
  | .refused _ => none

/-- The fault of an outcome, if it has one. -/
def faultOf : Host.Outcome State Fault Refusal → Option Fault
  | .next _ => none
  | .fault f => some f
  | .refused _ => none

/-- The state after `INIT T0, L0` (95_test_vectors.md V6, first row), with what the caller and the
transport do next. -/
def inited (port : List Command) (answers : List Answer) : State where
  hist := ⟨0#13, 0#13, 0#13, 0#13⟩
  cursor := 0#2
  tp := .first
  csid := .first
  cs := .high
  inited := true
  trace := [.setFormat .first 16 .idleHigh .secondEdge .msbFirst]
  port := port
  answers := answers

/-- `inited` with a READ started (95_test_vectors.md P4 b). -/
def waiting (port : List Command) (answers : List Answer) : State :=
  { inited port answers with
    cs := .low
    trace := [.setFormat .first 16 .idleHigh .secondEdge .msbFirst, .setLine .first .low,
      .exchangeStart .first 0x0000#16] }

/-- A waiting state with a given history and cursor. -/
def waitingWith (h : Hist) (k : SlotIndex) (w : BusWord) : State :=
  { waiting [] [⟨0, w⟩] with hist := h, cursor := k }

/-- P1 of 95_test_vectors.md after its first READ, with the second one started. -/
def secondRead (answers : List Answer) : State :=
  { waiting [] answers with
    hist := ⟨400#13, 0#13, 0#13, 0#13⟩
    cursor := 1#2
    trace := [.setFormat .first 16 .idleHigh .secondEdge .msbFirst, .setLine .first .low,
      .exchangeStart .first 0x0000#16, .exchangeDone .first 0x0C80#16, .setLine .first .high,
      .returned 25#11, .setLine .first .low, .exchangeStart .first 0x0000#16] }

def askIdle : Command := ⟨0b00#2, .first, .first⟩
def askInit : Command := ⟨0b01#2, .first, .first⟩
def askRead : Command := ⟨0b10#2, .first, .first⟩
def askBoth : Command := ⟨0b11#2, .first, .first⟩

/-! ## Encodings, written out bit by bit (R81, R83, R88) -/

theorem test_decode_idle (t : TransportId) (c : LineId) : decode ⟨0b00#2, t, c⟩ = .idle := rfl
theorem test_decode_init (t : TransportId) (c : LineId) : decode ⟨0b01#2, t, c⟩ = .init t c := rfl
theorem test_decode_read (t : TransportId) (c : LineId) : decode ⟨0b10#2, t, c⟩ = .read := rfl
theorem test_decode_reserved (t : TransportId) (c : LineId) : decode ⟨0b11#2, t, c⟩ = .reserved := rfl

/-- The worked example of 42_decode.md. -/
theorem test_reading_fields : Reading.ofWord 0b1010101111001101#16 =
    ⟨1#1, 1401#12, 1#1, 0#1, 1#1⟩ := by decide

/-- V1, row 0x8007. -/
theorem test_reading_word : (⟨1#1, 0#12, 1#1, 1#1, 1#1⟩ : Reading).toWord = 0x8007#16 := by decide

theorem test_level_bits : Level.high.toBit = 1#1 ∧ Level.low.toBit = 0#1 := by decide

/-! ## Well-formedness: an ill-formed term for each check -/

theorem test_wellFormed_refuses_bit15 : (Reading.ofWord 0x8000#16).wellFormed = false := by decide
theorem test_wellFormed_accepts_0x7FFF : (Reading.ofWord 0x7FFF#16).wellFormed = true := by decide
theorem test_wellFormed_refuses_reserved : Instr.reserved.wellFormed = false := by decide
theorem test_wellFormed_accepts_init : (Instr.init .first .first).wellFormed = true := by decide

/-! ## The data path -/

/-- V1: 0x0007, 0x8000, 0xFFFF. -/
theorem test_decode_corners : decodeReading 0x0007#16 = 0#13 ∧ decodeReading 0x8000#16 = 4096#13 ∧
    decodeReading 0xFFFF#16 = 8191#13 := by decide

/-- V2, rows 4 and 6: the wrap, and a stored zero. -/
theorem test_insert_wraps : ((waitingWith ⟨400#13, 404#13, 408#13, 0#13⟩ 3#2 0#16).insertDecoded
    412#13).hist = ⟨400#13, 404#13, 408#13, 412#13⟩ ∧
    ((waitingWith ⟨400#13, 404#13, 408#13, 0#13⟩ 3#2 0#16).insertDecoded 412#13).cursor = 0#2 ∧
    ((waitingWith ⟨7#13, 7#13, 7#13, 7#13⟩ 2#2 0#16).insertDecoded 0#13).hist =
      ⟨7#13, 7#13, 0#13, 7#13⟩ := by decide

/-- V3: the largest sum, and a truncated average. -/
theorem test_average_corners :
    (waitingWith ⟨8191#13, 8191#13, 8191#13, 8191#13⟩ 0#2 0#16).slotSum = 32764#15 ∧
    average 32764#15 = 8191#13 ∧ average 15#15 = 3#13 := by decide

/-- V4: 4095, 4096, 3, 8191. -/
theorem test_scale_corners : scale 4095#13 = 1023#11 ∧ scale 4096#13 = 1024#11 ∧
    scale 3#13 = 0#11 ∧ scale 8191#13 = 2047#11 := by decide

/-! ## One step each -/

/-- V7: IDLE while a READ waits changes nothing. -/
theorem test_idle_while_waiting :
    nextOf (step (waiting [askIdle] [])) = some (waiting [] []) := by decide

/-- V6, third row: INIT retargets the block, whatever the new tokens. -/
theorem test_init_retargets (t : TransportId) (c : LineId) :
    nextOf (exec (.init t c)
      { inited [] [] with hist := ⟨416#13, 404#13, 408#13, 412#13⟩, cursor := 1#2 }) =
    some { inited [] [] with
      tp := t, csid := c,
      trace := [.setFormat .first 16 .idleHigh .secondEdge .msbFirst,
        .setFormat t 16 .idleHigh .secondEdge .msbFirst] } := rfl

/-- V6, fourth row. -/
theorem test_init_overlap : faultOf (step (waiting [askInit] [])) = some (.overlap .init) := by
  decide

/-- P4 (b), the start step. -/
theorem test_read_starts : nextOf (step (inited [askRead] [])) = some (waiting [] []) := by decide

/-- P4 (a): READ from power-on. -/
theorem test_read_before_init :
    faultOf (step (State.reset.withFetchWord 8 0b10)) = some .notInitialized := by decide

/-- The worked example of 41_read.md. -/
theorem test_finish_example :
    (nextOf (step (waitingWith ⟨400#13, 404#13, 408#13, 412#13⟩ 0#2 0x0D00#16))).map
      (fun t => (t.hist, t.cursor, t.cs, t.trace.drop 3)) =
    some (⟨416#13, 404#13, 408#13, 412#13⟩, 1#2, .high,
      [.exchangeDone .first 0x0D00#16, .setLine .first .high, .returned 102#11]) := by decide

/-- P3, READ 6: a malformed word, and a result above 1023. -/
theorem test_finish_malformed :
    (nextOf (step (waitingWith ⟨5497#13, 0#13, 4096#13, 582#13⟩ 1#2 0xFFFF#16))).map
      (fun t => (t.hist, t.cursor, t.trace.getLast?)) =
    some (⟨5497#13, 8191#13, 4096#13, 582#13⟩, 2#2, some (.returned 1147#11)) := by decide

/-- V7: the reserved code, with the line high and with it low. -/
theorem test_reserved_faults : faultOf (step (inited [askBoth] [])) = some .reservedCommand ∧
    faultOf (step (waiting [askBoth] [])) = some .reservedCommand := by decide

/-- INIT is the first command after power-on (R115 d). -/
theorem test_first_command :
    (nextOf (step (State.reset.withFetchWord 8 0b01))).map (fun t => (t.inited, t.hist, t.cursor)) =
    some (true, ⟨0#13, 0#13, 0#13, 0#13⟩, 0#2) := by decide

/-! ## Witnesses: the hypotheses of each statement can be met -/

theorem witness_StepRunsPresentedCommand_line_high :
    (inited [askRead] []).cs = .high ∧ (inited [askRead] []).port = askRead :: [] := by decide

theorem witness_StepRunsPresentedCommand_never :
    (waiting [askIdle] []).answers = [] ∧ (waiting [askIdle] []).port = askIdle :: [] := by decide

theorem witness_StepRunsPresentedCommand_wait :
    (waiting [askIdle] [⟨1, 5#16⟩]).cs = .low ∧
    (waiting [askIdle] [⟨1, 5#16⟩]).answers = ⟨0 + 1, 5#16⟩ :: [] ∧
    (waiting [askIdle] [⟨1, 5#16⟩]).port = askIdle :: [] := by decide

theorem witness_StepRunsPresentedCommand_no_command :
    ((waiting [] []).port = [] ∧ (waiting [] []).answers = []) ∧
    ((inited [] [⟨0, 1#16⟩]).port = [] ∧ (inited [] [⟨0, 1#16⟩]).cs = .high) := by decide

theorem witness_InitCompletes :
    State.reset.cs = .high ∧ (inited [] []).cs = .high ∧ (waiting [] []).cs = .low := by decide

theorem witness_ReadStartCompletes :
    (waiting [] []).cs = .low ∧ (State.reset.cs = .high ∧ State.reset.inited = false) ∧
    ((inited [] []).cs = .high ∧ (inited [] []).inited = true) := by decide

theorem witness_ReadFinishCompletes :
    (waiting [] [⟨0, 0xFFFF#16⟩]).cs = .low ∧
    (waiting [] [⟨0, 0xFFFF#16⟩]).answers = ⟨0, 0xFFFF#16⟩ :: [] := by decide

theorem witness_ReadFinishCompletes_done_event :
    (nextOf (step (waiting [] [⟨0, 0xFFFF#16⟩]))).map
      (fun t => t.trace.count (.exchangeDone .first 0xFFFF#16)) = some 1 ∧
    (waiting [] [⟨0, 0xFFFF#16⟩]).trace.count (.exchangeDone .first 0xFFFF#16) = 0 := by decide

theorem witness_AnswerAndCommandInEitherOrder :
    (waiting [askRead] [⟨0, 1#16⟩]).cs = .low ∧
    (waiting [askRead] [⟨0, 1#16⟩]).port = askRead :: [] ∧ askRead.cmd = 0b10#2 ∧
    (waiting [askRead] [⟨0, 1#16⟩]).answers = ⟨0, 1#16⟩ :: [] ∧
    (waiting [askInit] [⟨1, 1#16⟩]).cs = .low ∧
    (waiting [askInit] [⟨1, 1#16⟩]).port = askInit :: [] ∧ askInit.cmd = 0b01#2 ∧
    (waiting [askInit] [⟨1, 1#16⟩]).answers = ⟨0 + 1, 1#16⟩ :: [] := by decide

theorem witness_AnsweredReadCompletes :
    (inited [askRead, askIdle] [⟨2, 0x0C80#16⟩]).inited = true ∧
    (inited [askRead, askIdle] [⟨2, 0x0C80#16⟩]).cs = .high ∧
    (inited [askRead, askIdle] [⟨2, 0x0C80#16⟩]).port = askRead :: [askIdle] ∧
    askRead.cmd = 0b10#2 ∧ (∀ q ∈ [askIdle], q.cmd = 0b00#2) ∧
    (inited [askRead, askIdle] [⟨2, 0x0C80#16⟩]).answers = ⟨2, 0x0C80#16⟩ :: [] := by decide

theorem witness_HungBusHoldsTheLine :
    (waiting [askIdle] []).cs = .low ∧ (waiting [askIdle] []).answers = [] ∧
    (∀ p ∈ (waiting [askIdle] []).port, p.cmd = 0b00#2) := by decide

theorem witness_OnlyTheTransportEndsTheWait :
    ((waiting [] [⟨0, 1#16⟩]).cs = .low ∧ (nextOf (step (waiting [] [⟨0, 1#16⟩]))).isSome = true) ∧
    ((waiting [] [⟨1, 1#16⟩]).cs = .low ∧
      nextOf (step (waiting [] [⟨1, 1#16⟩])) = some (waiting [] [⟨0, 1#16⟩])) := by decide

theorem witness_DecodeShiftsWithoutMask :
    (0x8000#16).getLsbD 15 = true ∧ (0x7FFF#16).getLsbD 15 = false := by decide

theorem witness_DecodeMonotoneAndEightToOne :
    (0x7FFF#16).toNat ≤ (0x8000#16).toNat := by decide

theorem witness_InsertWritesOneSlot : (3#2 : SlotIndex) ≠ (inited [] []).cursor := by decide

theorem witness_AverageOfExactSum :
    ∀ i, ((waitingWith ⟨4095#13, 4095#13, 4095#13, 4095#13⟩ 0#2 0#16).hist.get i).toNat ≤ 4095 := by
  decide

theorem witness_ResultRangeAndMalformedWord :
    (∀ i, ((waitingWith ⟨4095#13, 4095#13, 4095#13, 0#13⟩ 0#2 0#16).hist.get i).toNat ≤ 4095) ∧
    (0x7FFF#16).getLsbD 15 = false := by
  decide

/-- V5, the malformed word 0x8C80 among three of 0x0C80: 356 where 0x0C80 gives 100. -/
theorem test_malformed_word :
    ((waitingWith ⟨400#13, 400#13, 400#13, 400#13⟩ 0#2 0#16).writeSlot 0#2
      (decodeReading 0x8C80#16)).temperature = 356#11 := by decide

/-- One READ of 0x0C80 since INIT: slot 0 holds 400 and the others 0. -/
theorem secondRead_history (answers : List Answer) :
    (secondRead answers).HistoryHolds [0x0C80#16] := by
  refine ⟨rfl, fun i => ⟨fun k w hk hm _ => ?_, fun hno => ?_⟩⟩
  · cases k with
    | zero =>
      cases hk
      have hi : i = 0#2 := BitVec.eq_of_toNat_eq (by simpa using hm.symm)
      rw [hi]; rfl
    | succ k => cases hk
  · have hne : i ≠ 0#2 := fun hi => hno 0 (by decide) (by rw [hi]; rfl)
    rcases slotIndex_cases i with rfl | rfl | rfl | rfl
    · exact absurd rfl hne
    · rfl
    · rfl
    · rfl

theorem witness_SteadyInputWarmsUp :
    (secondRead []).HistoryHolds (List.replicate 1 0x0C80#16) := secondRead_history []

theorem witness_CommandFrames :
    nextOf (exec .idle (waiting [] [])) = some (waiting [] []) ∧
    nextOf (exec .read (inited [] [])) = some (waiting [] []) ∧
    (nextOf (exec (.init .first .first) State.reset)).isSome = true := by decide

theorem witness_OnlyInitAndFinishWriteState :
    (nextOf (step { State.reset with port := [askInit] })).map (·.inited) = some true ∧
    (nextOf (step (waiting [] [⟨0, 0x0C80#16⟩]))).map (·.cursor) = some 1#2 ∧
    (nextOf (step State.reset)).map (·.inited) = some false := by decide

/-- Where the open types have further tokens, INIT changes the references. -/
theorem witness_OnlyInitAndFinishWriteState_references (t : TransportId) (c : LineId)
    (ht : t ≠ .first) : ∃ u, step (inited [⟨0b01#2, t, c⟩] []) = .next u ∧ u.tp ≠ .first ∧
      (inited [⟨0b01#2, t, c⟩] []).tp = .first := ⟨_, rfl, ht, rfl⟩

theorem witness_TraceGrowsByWholeGroups :
    (nextOf (step (inited [] []))).isSome = true ∧ (nextOf (step (inited [askInit] []))).isSome = true ∧
    (nextOf (step (inited [askRead] []))).isSome = true ∧
    (nextOf (step (waiting [] [⟨0, 1#16⟩]))).isSome = true := by decide

theorem witness_DisciplinedRunsNeverFault :
    (inited [askRead, askInit, askRead] [⟨0, 1#16⟩, ⟨0, 2#16⟩]).keepsDiscipline ∧
    (waiting [askIdle] [⟨0, 1#16⟩]).keepsDiscipline := by
  unfold State.keepsDiscipline
  decide

theorem witness_IdleBlockWaitsForCommand :
    (State.reset.cs = .high ∧ ∀ p ∈ State.reset.port, p.cmd = 0b00#2) ∧
    ((inited [askIdle] [⟨0, 1#16⟩]).cs = .high ∧
      ∀ p ∈ (inited [askIdle] [⟨0, 1#16⟩]).port, p.cmd = 0b00#2) := by decide

theorem witness_PowerOnFieldsAreNeverRead :
    { State.reset with port := [askInit, askRead] }.inited = false ∧
    { State.reset with port := [askInit, askRead] }.cs = .high := by decide

theorem witness_ReinitializationForgets :
    State.reset.cs = .high ∧ (inited [] []).cs = .high ∧
    State.reset.port = (inited [] []).port ∧ State.reset.answers = (inited [] []).answers := by decide

theorem witness_StepKeepsBusyInitialized :
    (waiting [] [⟨0, 1#16⟩]).BusyInitialized ∧
    (nextOf (step (waiting [] [⟨0, 1#16⟩]))).isSome = true := ⟨fun _ => rfl, by decide⟩

theorem witness_StepKeepsChipSelectDiscipline :
    (secondRead [⟨0, 0x0CA0#16⟩]).ChipSelectDiscipline ∧
    (nextOf (step (secondRead [⟨0, 0x0CA0#16⟩]))).isSome = true := ⟨by rfl, by decide⟩

theorem witness_StepKeepsHistory :
    (secondRead [⟨0, 0x0CA0#16⟩]).HistoryTracksTrace ∧
    (nextOf (step (secondRead [⟨0, 0x0CA0#16⟩]))).isSome = true :=
  ⟨fun _ => secondRead_history _, by decide⟩

/-- The one result of the trace is the average of the one word before it: floor(400 / 16) = 25. -/
theorem secondRead_returns (answers : List Answer) :
    ReturnsAreAverages (secondRead answers).trace := by
  intro before temp after heq
  have hat : (secondRead answers).trace[before.length]? = some (.returned temp) := by
    rw [heq]; simp
  have htake : before = (secondRead answers).trace.take before.length := by
    rw [heq]; simp
  generalize before.length = k at hat htake
  match k with
  | 0 => cases hat
  | 1 => cases hat
  | 2 => cases hat
  | 3 => cases hat
  | 4 => cases hat
  | 5 =>
    cases hat
    rw [htake]
    change (25#11).toNat = movingAverage (wordsSinceInit ((secondRead []).trace.take 5))
    decide
  | 6 => cases hat
  | 7 => cases hat
  | _ + 8 => cases hat

theorem witness_StepKeepsReturningAverages :
    (secondRead [⟨0, 0x0CA0#16⟩]).ComputesAverages ∧
    (nextOf (step (secondRead [⟨0, 0x0CA0#16⟩]))).map (fun t => t.trace.getLast?) =
      some (some (.returned 50#11)) :=
  ⟨⟨fun _ => rfl, fun _ => secondRead_history _, secondRead_returns _⟩, by decide⟩

theorem witness_StepKeepsWellFormedRange :
    (secondRead [⟨0, 0x0CA0#16⟩]).WellFormedRange ∧
    (nextOf (step (secondRead [⟨0, 0x0CA0#16⟩]))).isSome = true :=
  ⟨fun _ _ => by decide, by decide⟩

end Sys2Proof.Tests
end

section
/-! PROOFS. The family 00_scope.md: which command a step runs (R8, R90, R124), and that the two
tokens are never inspected (R7, R26). The second rests on one commuting square per operation of the
model: renaming before the operation or after it is the same. -/

namespace Sys2Proof.Machine

open Sys2Proof

/-! ## The command that a step runs -/

theorem State.presented_of_cons {s : State} {p : Command} {ps : List Command}
    (h : s.port = p :: ps) : s.presented = p := by
  rw [State.presented, h]; rfl

/-- At an empty port the decoder finds IDLE (R90). -/
theorem State.decode_presented_of_nil {s : State} (h : s.port = []) :
    decode s.presented = .idle := by
  rw [State.presented, h]; rfl

/-- Where no exchange is outstanding, or none will be answered, a step runs the presented command
and only the port moves. -/
theorem step_of_no_answer {s : State} (h : s.cs = .high ∨ s.answers = []) :
    step s = exec (decode s.presented) { s with port := s.port.tail } := by
  obtain hc | ha := h
  · rw [step_of_not_due (State.answerDue_of_high hc), State.afterPort_of_high hc]
  · rw [step_of_not_due (State.answerDue_of_never ha), State.afterPort_of_never ha]

theorem step_of_no_answer_cons {s : State} {p : Command} {ps : List Command}
    (h : s.cs = .high ∨ s.answers = []) (hp : s.port = p :: ps) :
    step s = exec (decode p) { s with port := ps } := by
  rw [step_of_no_answer h, State.presented_of_cons hp, hp, List.tail_cons]

/-- Where the answer still waits, a step runs the presented command and the wait is one less. -/
theorem step_of_wait {s : State} {n : Nat} {w : BusWord} {rest : List Answer}
    (hc : s.cs = .low) (ha : s.answers = ⟨n + 1, w⟩ :: rest) :
    step s = exec (decode s.presented)
      { s with port := s.port.tail, answers := ⟨n, w⟩ :: rest } := by
  rw [step_of_not_due (State.answerDue_of_wait ha), State.afterPort_of_wait hc ha]

/-- Settles O4: the four cases in which no answer is due, each by the rule for the step there. -/
theorem stepRunsPresentedCommand : Obligations.StepRunsPresentedCommand := by
  unfold Obligations.StepRunsPresentedCommand
  refine ⟨?high, ?never, ?wait, ?empty⟩
  case high => exact fun s p ps hc hp => step_of_no_answer_cons (.inl hc) hp
  case never => exact fun s p ps ha hp => step_of_no_answer_cons (.inr ha) hp
  case wait =>
    intro s p ps n w rest hc ha hp
    rw [step_of_wait hc ha, State.presented_of_cons hp, hp, List.tail_cons]
  case empty =>
    intro s hp h
    have hsame : { s with port := s.port.tail } = s := by rw [hp, List.tail_nil, ← hp]
    rw [step_of_no_answer h, State.decode_presented_of_nil hp, hsame]

/-! ## Runs and maps on states -/

/-- A run whose first step is refused has been refused. -/
theorem runSteps_succ_of_refused {s : State} {r : Refusal} (n : Nat) (h : step s = .refused r) :
    runSteps (n + 1) s = .refused r := by
  have hc : Sys2Proof.core.step s = .refused r := h
  simp only [runSteps, Host.Core.run, hc]
  rfl

/-- A map on states that commutes with every step commutes with every run. -/
theorem runSteps_comm_of_step_comm {F : State → State}
    (hstep : ∀ s, step (F s) = mapNext F (step s)) (n : Nat) (s : State) :
    runSteps n (F s) = mapNext F (runSteps n s) := by
  induction n generalizing s with
  | zero => rfl
  | succ n ih =>
    have hF := hstep s
    cases h : step s with
    | next t =>
      rw [h] at hF
      rw [runSteps_succ_of_next n hF, runSteps_succ_of_next n h, ih]
    | fault f =>
      rw [h] at hF
      rw [runSteps_succ_of_fault n hF, runSteps_succ_of_fault n h]; rfl
    | refused r =>
      rw [h] at hF
      rw [runSteps_succ_of_refused n hF, runSteps_succ_of_refused n h]; rfl

/-- A map on next states goes into both branches of a check. -/
theorem mapNext_ite (F : State → State) (c : Prop) [Decidable c]
    (a b : Host.Outcome State Fault Refusal) :
    mapNext F (if c then a else b) = if c then mapNext F a else mapNext F b :=
  apply_ite (mapNext F) c a b

/-! ## Renaming the tokens commutes with every operation -/

/-- A row of the command map with other tokens: what `renameCommand` makes of it
(`decode_renameCommand`). -/
def renameInstr (f : TransportId → TransportId) (g : LineId → LineId) : Instr → Instr
  | .idle => .idle
  | .init t c => .init (f t) (g c)
  | .read => .read
  | .reserved => .reserved

section Renaming

variable (f : TransportId → TransportId) (g : LineId → LineId)

/-- The decoder passes the tokens on. -/
theorem decode_renameCommand (p : Command) :
    decode (renameCommand f g p) = renameInstr f g (decode p) := by
  simp only [decode, apply_ite (renameInstr f g)]
  rfl

/-- What a renamed state presents decodes to the renamed command. At an empty port the tokens of
`noCommand` are not renamed, but IDLE has none. -/
theorem decode_presented_rename (s : State) :
    decode (s.rename f g).presented = renameInstr f g (decode s.presented) := by
  cases hp : s.port with
  | nil =>
    have hr : (s.rename f g).port = [] := by simp [State.rename, hp]
    rw [State.decode_presented_of_nil hp, State.decode_presented_of_nil hr]; rfl
  | cons p ps =>
    have hr : (s.rename f g).port = renameCommand f g p :: ps.map (renameCommand f g) := by
      simp [State.rename, hp]
    rw [State.presented_of_cons hp, State.presented_of_cons hr, decode_renameCommand]

theorem emit_rename (s : State) (e : Event) :
    (s.rename f g).emit (e.rename f g) = (s.emit e).rename f g := by
  simp [State.rename, State.emit]

theorem driveLine_rename (s : State) (l : Level) :
    (s.rename f g).driveLine l = (s.driveLine l).rename f g :=
  emit_rename f g { s with cs := l } (.setLine s.csid l)

theorem initialized_rename (s : State) (t : TransportId) (c : LineId) :
    (s.rename f g).initialized (f t) (g c) = (s.initialized t c).rename f g :=
  emit_rename f g
    { s with tp := t, csid := c, cursor := 0#2, hist := Hist.zero, inited := true }
    (.setFormat t Config.bitsPerWord .idleHigh .secondEdge .msbFirst)

theorem readStarted_rename (s : State) :
    (s.rename f g).readStarted = s.readStarted.rename f g := by
  unfold State.readStarted
  rw [driveLine_rename]
  exact emit_rename f g (s.driveLine .low) (.exchangeStart s.tp Config.wordOut)

/-- The result has no token: only the three events and the line are renamed. -/
theorem readFinished_rename (s : State) (w : BusWord) :
    (s.rename f g).readFinished w = (s.readFinished w).rename f g := by
  have hreleased : ((s.rename f g).emit (.exchangeDone (s.rename f g).tp w)).driveLine .high =
      ((s.emit (.exchangeDone s.tp w)).driveLine .high).rename f g := by
    rw [← driveLine_rename, ← emit_rename]; rfl
  unfold State.readFinished
  rw [hreleased]
  exact emit_rename f g
    (((s.emit (.exchangeDone s.tp w)).driveLine .high).insertDecoded (decodeReading w)) (.returned _)

theorem answerDue_rename (s : State) : (s.rename f g).answerDue = s.answerDue := rfl

theorem afterPort_rename (s : State) : (s.rename f g).afterPort = s.afterPort.rename f g := by
  have htail : (s.port.map (renameCommand f g)).tail = s.port.tail.map (renameCommand f g) :=
    List.map_tail.symm
  unfold State.afterPort
  dsimp only [State.rename]
  rw [htail]
  split <;> rfl

/-- The checks of a command read no token (R182 to R185). -/
theorem exec_rename (i : Instr) (s : State) :
    exec (renameInstr f g i) (s.rename f g) = mapNext (State.rename f g) (exec i s) := by
  cases i with
  | idle => rfl
  | init t c =>
    change execInit (f t) (g c) (s.rename f g) = mapNext _ (execInit t c s)
    unfold execInit
    rw [mapNext_ite, initialized_rename]; rfl
  | read =>
    change execRead (s.rename f g) = mapNext _ (execRead s)
    unfold execRead
    rw [mapNext_ite, mapNext_ite, readStarted_rename]; rfl
  | reserved => rfl

theorem step_rename (s : State) :
    step (s.rename f g) = mapNext (State.rename f g) (step s) := by
  cases hd : s.answerDue with
  | some w =>
    have hr : (s.rename f g).answerDue = some w := (answerDue_rename f g s).trans hd
    rw [step_of_due hr, step_of_due hd]
    exact congrArg _ (readFinished_rename f g s.dropAnswer w)
  | none =>
    have hr : (s.rename f g).answerDue = none := (answerDue_rename f g s).trans hd
    rw [step_of_not_due hr, step_of_not_due hd, decode_presented_rename, afterPort_rename,
      exec_rename]

end Renaming

/-- Settles O29: renaming commutes with every step, and so with every run. -/
theorem tokensAreNeverInspected : Obligations.TokensAreNeverInspected := by
  unfold Obligations.TokensAreNeverInspected
  exact fun f g n s => runSteps_comm_of_step_comm (step_rename f g) n s

end Sys2Proof.Machine
end

section
/-! PROOFS. The family 10_state.md: who writes the state (R20, R22, R25 to R27), what no rule reads
(R65, R212), and the invariants of every step (R35, R65, R122, R153, R185). The history invariants
rest on one lemma that says what a step does to the history and to the words it is read off. -/

namespace Sys2Proof.Machine

open Sys2Proof

/-! ## INIT and READ with the line high -/

/-- INIT completes (R111). -/
theorem exec_init_of_high {s : State} (hc : s.cs = .high) (t : TransportId) (c : LineId) :
    exec (.init t c) s = .next (s.initialized t c) := by
  have hb : s.busy = false := State.busy_eq_false.mpr hc
  change execInit t c s = _
  rw [execInit, hb]; rfl

/-- READ with no INIT behind it faults (R182). -/
theorem exec_read_of_uninitialized {s : State} (hc : s.cs = .high) (hn : s.inited = false) :
    exec .read s = .fault .notInitialized := by
  have hb : s.busy = false := State.busy_eq_false.mpr hc
  have hu : s.uninitialized = true := State.uninitialized_eq_true.mpr hn
  change execRead s = _
  rw [execRead, hb, hu]; rfl

/-! ## The writers of the state -/

/-- Settles O23: each command that answers did nothing, initialized, or started a READ. -/
theorem commandFrames : Obligations.CommandFrames := by
  unfold Obligations.CommandFrames
  intro i s t h
  obtain ⟨rfl, rfl⟩ | ⟨tp, c, rfl, -, rfl⟩ | ⟨rfl, -, -, rfl⟩ := exec_next_cases h
  case inl => simp
  case inr.inl => simp
  case inr.inr => simp

/-- Settles O24: by the four transitions of a step. -/
theorem onlyInitAndFinishWriteState : Obligations.OnlyInitAndFinishWriteState := by
  unfold Obligations.OnlyInitAndFinishWriteState
  intro s t h
  obtain ⟨w, hd, rfl⟩ | ⟨-, -, rfl⟩ | ⟨tp, c, -, hi, hc, rfl⟩ | ⟨-, -, -, -, rfl⟩ :=
    step_next_cases h
  case inl =>
    obtain ⟨hlow, -⟩ := State.answerDue_eq_some.mp hd
    have hother (i : SlotIndex) (hne : i ≠ s.cursor) :
        (s.dropAnswer.readFinished w).hist.get i = s.hist.get i :=
      s.hist.get_set_other (decodeReading w) hne
    exact ⟨id, by simp, fun _ => .inr ⟨hlow, rfl, rfl, hother⟩⟩
  case inr.inl => simp
  case inr.inr.inl =>
    exact ⟨by simp, fun _ => ⟨hc, tp, c, hi, rfl, rfl⟩, fun _ => .inl ⟨hc, tp, c, hi⟩⟩
  case inr.inr.inr => simp

/-! ## The trace is never read -/

/-- A map on states that keeps the two tested bits and goes through what INIT and READ's start leave
commutes with every command. -/
theorem exec_comm {F : State → State} (hcs : ∀ s, (F s).cs = s.cs)
    (hinited : ∀ s, (F s).inited = s.inited)
    (hinit : ∀ s t c, (F s).initialized t c = F (s.initialized t c))
    (hread : ∀ s, (F s).readStarted = F s.readStarted) (i : Instr) (s : State) :
    exec i (F s) = mapNext F (exec i s) := by
  have hbusy : (F s).busy = s.busy := by rw [State.busy, State.busy, hcs]
  have huninit : (F s).uninitialized = s.uninitialized := by
    rw [State.uninitialized, State.uninitialized, hinited]
  cases i with
  | idle => rfl
  | init t c =>
    change execInit t c (F s) = mapNext F (execInit t c s)
    rw [execInit, execInit, mapNext_ite, hbusy, hinit]; rfl
  | read =>
    change execRead (F s) = mapNext F (execRead s)
    rw [execRead, execRead, mapNext_ite, mapNext_ite, hbusy, huninit, hread]; rfl
  | reserved => rfl

/-- A state with more events before its trace (R65). -/
def State.withEarlier (before : List Event) (s : State) : State :=
  { s with trace := before ++ s.trace }

section Earlier

variable (before : List Event)

theorem emit_withEarlier (s : State) (e : Event) :
    (s.withEarlier before).emit e = (s.emit e).withEarlier before := by
  simp [State.withEarlier, State.emit]

theorem driveLine_withEarlier (s : State) (l : Level) :
    (s.withEarlier before).driveLine l = (s.driveLine l).withEarlier before :=
  emit_withEarlier before { s with cs := l } (.setLine s.csid l)

theorem initialized_withEarlier (s : State) (t : TransportId) (c : LineId) :
    (s.withEarlier before).initialized t c = (s.initialized t c).withEarlier before :=
  emit_withEarlier before
    { s with tp := t, csid := c, cursor := 0#2, hist := Hist.zero, inited := true } _

theorem readStarted_withEarlier (s : State) :
    (s.withEarlier before).readStarted = s.readStarted.withEarlier before := by
  rw [State.readStarted, driveLine_withEarlier, emit_withEarlier]; rfl

/-- The result is read off the slots, not off the trace. -/
theorem readFinished_withEarlier (s : State) (w : BusWord) :
    (s.withEarlier before).readFinished w = (s.readFinished w).withEarlier before := by
  rw [State.readFinished, emit_withEarlier, driveLine_withEarlier]
  exact emit_withEarlier before
    (((s.emit (.exchangeDone s.tp w)).driveLine .high).insertDecoded (decodeReading w)) _

theorem afterPort_withEarlier (s : State) :
    (s.withEarlier before).afterPort = s.afterPort.withEarlier before := by
  unfold State.afterPort
  dsimp only [State.withEarlier]
  split <;> rfl

theorem step_withEarlier (s : State) :
    step (s.withEarlier before) = mapNext (State.withEarlier before) (step s) := by
  have hdue : (s.withEarlier before).answerDue = s.answerDue := rfl
  have hpresented : (s.withEarlier before).presented = s.presented := rfl
  cases hd : s.answerDue with
  | some w =>
    rw [step_of_due hd, step_of_due (hdue.trans hd)]
    exact congrArg _ (readFinished_withEarlier before s.dropAnswer w)
  | none =>
    rw [step_of_not_due hd, step_of_not_due (hdue.trans hd), hpresented, afterPort_withEarlier]
    exact exec_comm (F := State.withEarlier before) (fun _ => rfl) (fun _ => rfl)
      (initialized_withEarlier before) (readStarted_withEarlier before) _ _

end Earlier

/-- Settles O28: putting events before the trace commutes with every step, and so with every run. -/
theorem traceIsNeverRead : Obligations.TraceIsNeverRead := by
  unfold Obligations.TraceIsNeverRead
  exact fun n s before => runSteps_comm_of_step_comm (step_withEarlier before) n s

/-! ## The fields without a power-on value are never read -/

theorem outcomesAgree_refl {r : State → State → Prop} (hr : ∀ s, r s s)
    (o : Host.Outcome State Fault Refusal) : outcomesAgree r o o := by
  cases o with
  | next s => exact hr s
  | fault f => exact rfl
  | refused f => exact rfl

/-- A relation that every step keeps, stops included, is kept by every run. -/
theorem runSteps_agree_of_step_agree {r : State → State → Prop}
    (hstep : ∀ s t, r s t → outcomesAgree r (step s) (step t)) (n : Nat) {s t : State}
    (h : r s t) : outcomesAgree r (runSteps n s) (runSteps n t) := by
  induction n generalizing s t with
  | zero => exact h
  | succ n ih =>
    have hst := hstep s t h
    cases hs : step s <;> cases ht : step t <;> rw [hs, ht] at hst
    case next.next s' t' =>
      rw [runSteps_succ_of_next n hs, runSteps_succ_of_next n ht]; exact ih hst
    case fault.fault =>
      rw [runSteps_succ_of_fault n hs, runSteps_succ_of_fault n ht]; exact hst
    case refused.refused =>
      rw [runSteps_succ_of_refused n hs, runSteps_succ_of_refused n ht]; exact hst
    all_goals exact hst.elim

/-- A state with other values in the four fields that power-on leaves open (R212). -/
def State.withUnset (s : State) (h : Hist) (k : SlotIndex) (t : TransportId) (c : LineId) : State :=
  { s with hist := h, cursor := k, tp := t, csid := c }

/-- Before any INIT a command does the same whatever the four fields hold: INIT overwrites them all,
and READ, which would read them, faults. -/
theorem exec_withUnset_agree {s : State} (hn : s.inited = false) (hc : s.cs = .high)
    (h : Hist) (k : SlotIndex) (t : TransportId) (c : LineId) (i : Instr) :
    outcomesAgree State.agreesButUnset (exec i s) (exec i (s.withUnset h k t c)) := by
  have hn' : (s.withUnset h k t c).inited = false := hn
  have hc' : (s.withUnset h k t c).cs = .high := hc
  cases i with
  | idle => exact .inr ⟨hn, hc, rfl⟩
  | init t' c' =>
    rw [exec_init_of_high hc, exec_init_of_high hc']
    exact .inl rfl
  | read =>
    rw [exec_read_of_uninitialized hc hn, exec_read_of_uninitialized hc' hn']
    exact rfl
  | reserved => exact rfl

theorem step_agreesButUnset {s t : State} (h : s.agreesButUnset t) :
    outcomesAgree State.agreesButUnset (step s) (step t) := by
  obtain rfl | ⟨hn, hc, ht⟩ := h
  · exact outcomesAgree_refl (fun _ => .inl rfl) (step s)
  · have hc' : t.cs = .high := by rw [ht]; exact hc
    have hpresented : t.presented = s.presented := by rw [ht]; rfl
    have hport : { t with port := t.port.tail } =
        { s with port := s.port.tail }.withUnset t.hist t.cursor t.tp t.csid := by rw [ht]; rfl
    rw [step_of_no_answer (.inl hc), step_of_no_answer (.inl hc'), hpresented, hport]
    exact exec_withUnset_agree (s := { s with port := s.port.tail }) hn hc _ _ _ _ _

/-- Settles O33: every step keeps the agreement, and so does every run. -/
theorem powerOnFieldsAreNeverRead : Obligations.PowerOnFieldsAreNeverRead := by
  unfold Obligations.PowerOnFieldsAreNeverRead
  exact fun n s h k t c hn hc =>
    runSteps_agree_of_step_agree (fun _ _ => step_agreesButUnset) n (.inr ⟨hn, hc, rfl⟩)

/-! ## The line -/

/-- Settles O36: only READ's start drives the line low, and it has tested `inited`. -/
theorem stepKeepsBusyInitialized : Obligations.StepKeepsBusyInitialized := by
  unfold Obligations.StepKeepsBusyInitialized
  intro s t hs h hlow
  obtain ⟨w, -, rfl⟩ | ⟨-, -, rfl⟩ | ⟨tp, c, -, -, -, rfl⟩ | ⟨-, -, -, hinited, rfl⟩ :=
    step_next_cases h
  case inl => cases hlow
  case inr.inl => simpa using hs (by simpa using hlow)
  case inr.inr.inl => rfl
  case inr.inr.inr => simpa using hinited

/-- A format between READs leaves the bus between READs (R112). -/
theorem busPhase_append_format {tr : List Event} (h : busPhase tr = some .quiet) (t : TransportId)
    (b : Nat) (p : Polarity) (ph : Phase) (o : BitOrder) :
    busPhase (tr ++ [.setFormat t b p ph o]) = some .quiet := by
  rw [busPhase_append, h]; rfl

/-- READ's start opens an exchange (R121). -/
theorem busPhase_append_start {tr : List Event} (h : busPhase tr = some .quiet) (l : LineId)
    (t : TransportId) :
    busPhase (tr ++ [.setLine l .low, .exchangeStart t 0x0000#16]) = some (.exchanging l t) := by
  rw [busPhase_append, h]; rfl

/-- READ's finish closes the exchange, on the line and with the transport that it was opened on
(R123). -/
theorem busPhase_append_finish {tr : List Event} {l : LineId} {t : TransportId}
    (h : busPhase tr = some (.exchanging l t)) (w : BusWord) (x : TempWord) :
    busPhase (tr ++ [.exchangeDone t w, .setLine l .high, .returned x]) = some .quiet := by
  rw [busPhase_append, h]
  simp [BusPhase.after]

theorem State.chipSelectDiscipline_of_high {s : State} (hc : s.cs = .high) :
    s.ChipSelectDiscipline ↔ busPhase s.trace = some .quiet := by
  rw [State.ChipSelectDiscipline, hc]

theorem State.chipSelectDiscipline_of_low {s : State} (hc : s.cs = .low) :
    s.ChipSelectDiscipline ↔ busPhase s.trace = some (.exchanging s.csid s.tp) := by
  rw [State.ChipSelectDiscipline, hc]

/-- Settles O37: each of the four transitions appends the events that the phase allows. -/
theorem stepKeepsChipSelectDiscipline : Obligations.StepKeepsChipSelectDiscipline := by
  unfold Obligations.StepKeepsChipSelectDiscipline
  intro s t hs h
  obtain ⟨w, hd, rfl⟩ | ⟨-, -, rfl⟩ | ⟨tp, c, -, -, hc, rfl⟩ | ⟨-, -, hc, -, rfl⟩ :=
    step_next_cases h
  case inl =>
    obtain ⟨hlow, -⟩ := State.answerDue_eq_some.mp hd
    rw [State.chipSelectDiscipline_of_low hlow] at hs
    rw [State.chipSelectDiscipline_of_high rfl, State.readFinished_trace]
    exact busPhase_append_finish hs w _
  case inr.inl => simpa [State.ChipSelectDiscipline] using hs
  case inr.inr.inl =>
    rw [State.chipSelectDiscipline_of_high hc] at hs
    rw [State.chipSelectDiscipline_of_high (by simpa using hc), State.initialized_trace,
      State.afterPort_trace]
    exact busPhase_append_format hs tp 16 .idleHigh .secondEdge .msbFirst
  case inr.inr.inr =>
    rw [State.chipSelectDiscipline_of_high hc] at hs
    rw [State.chipSelectDiscipline_of_low rfl, State.readStarted_trace, State.afterPort_trace]
    simpa using busPhase_append_start hs s.csid s.tp

/-! ## The history -/

/-- What a step does to the history and to the words received since INIT: it leaves both, or INIT
clears both, or READ's finish puts the word it received into both. -/
theorem step_history_cases {s t : State} (h : step s = .next t) :
    (t.inited = s.inited ∧ t.hist = s.hist ∧ t.cursor = s.cursor ∧
      wordsSinceInit t.trace = wordsSinceInit s.trace) ∨
    (t.hist = Hist.zero ∧ t.cursor = 0#2 ∧ wordsSinceInit t.trace = []) ∨
    (∃ w, t.inited = s.inited ∧ t.hist = s.hist.set s.cursor (decodeReading w) ∧
      t.cursor = s.cursor + 1#2 ∧ wordsSinceInit t.trace = wordsSinceInit s.trace ++ [w]) := by
  obtain ⟨w, -, rfl⟩ | ⟨-, -, rfl⟩ | ⟨tp, c, -, -, -, rfl⟩ | ⟨-, -, -, -, rfl⟩ :=
    step_next_cases h
  case inl =>
    refine .inr (.inr ⟨w, rfl, rfl, rfl, ?_⟩)
    rw [State.readFinished_trace, wordsSinceInit_append]; rfl
  case inr.inl => left; simp
  case inr.inr.inl =>
    refine .inr (.inl ⟨rfl, rfl, ?_⟩)
    rw [State.initialized_trace, wordsSinceInit_append]; rfl
  case inr.inr.inr =>
    left
    simp [wordsSinceInit_append, wordsAfter]

/-- Before the first word the cursor is 0 and every slot holds 0 (R111). -/
theorem State.historyHolds_nil {s : State} (hcursor : s.cursor = 0#2) (hhist : s.hist = Hist.zero) :
    s.HistoryHolds [] := by
  refine ⟨by rw [hcursor]; rfl, fun i => ⟨fun k w hk => by simp at hk, fun _ => ?_⟩⟩
  rw [hhist, Hist.get_zero]

/-- The words and the history move together: the next word's turn is the slot under the cursor
(R153). -/
theorem State.historyHolds_append {s t : State} {ws : List BusWord} {w : BusWord}
    (hs : s.HistoryHolds ws) (hhist : t.hist = s.hist.set s.cursor (decodeReading w))
    (hcursor : t.cursor = s.cursor + 1#2) : t.HistoryHolds (ws ++ [w]) := by
  obtain ⟨hlen, hslots⟩ := hs
  refine ⟨by rw [hcursor, cursor_succ_toNat, hlen, List.length_append]; simp, fun i => ?_⟩
  rw [hhist, Hist.get_set]
  by_cases hi : i = s.cursor
  case pos =>
    have hturn : ws.length % 4 = i.toNat := by rw [hi, hlen]
    rw [if_pos hi]
    refine ⟨fun k w' hk _ hlast => ?_, fun hno => (hno ws.length (by simp) hturn).elim⟩
    have hnow : k = ws.length := by
      obtain ⟨hlt, -⟩ := List.getElem?_eq_some_iff.mp hk
      have hnot : ¬ k < ws.length := fun hold => hlast ws.length hold (by simp) hturn
      rw [List.length_append, List.length_singleton] at hlt
      omega
    obtain rfl : w = w' := by simpa [hnow] using hk
    exact decodeReading_toNat w
  case neg =>
    have hturn : ws.length % 4 ≠ i.toNat := fun heq => hi (BitVec.eq_of_toNat_eq (by omega))
    have hold {k : Nat} (hk : k < (ws ++ [w]).length) (hm : k % 4 = i.toNat) : k < ws.length := by
      have hne : k ≠ ws.length := fun heq => hturn (heq ▸ hm)
      rw [List.length_append, List.length_singleton] at hk
      omega
    obtain ⟨hlatest, hnone⟩ := hslots i
    rw [if_neg hi]
    refine ⟨fun k w' hk hm hlast => ?_, fun hno => ?_⟩
    · obtain ⟨hlt, -⟩ := List.getElem?_eq_some_iff.mp hk
      rw [List.getElem?_append_left (hold hlt hm)] at hk
      exact hlatest k w' hk hm fun j hkj hj => hlast j hkj (by simp; omega)
    · exact hnone fun k hk => hno k (by simp; omega)

/-- Settles O38: by what a step does to the history and the words. -/
theorem stepKeepsHistory : Obligations.StepKeepsHistory := by
  unfold Obligations.StepKeepsHistory
  intro s t hs h hinited
  obtain ⟨hi, hhist, hcursor, hwords⟩ | ⟨hhist, hcursor, hwords⟩ |
    ⟨w, hi, hhist, hcursor, hwords⟩ := step_history_cases h
  case inl =>
    rw [hwords, State.HistoryHolds, hhist, hcursor]
    exact hs (hi ▸ hinited)
  case inr.inl =>
    rw [hwords]
    exact State.historyHolds_nil hcursor hhist
  case inr.inr =>
    rw [hwords]
    exact State.historyHolds_append (hs (hi ▸ hinited)) hhist hcursor

/-- A well-formed word decodes to at most 4095 (R81, R141). -/
theorem decodeReading_le_of_wellFormed {w : BusWord} (h : (Reading.ofWord w).wellFormed = true) :
    (decodeReading w).toNat ≤ 4095 := by
  have hrsv : w.extractLsb' 15 1 = 0#1 := by simpa [Reading.wellFormed, Reading.ofWord] using h
  have hbit : w.toNat / 2 ^ 15 % 2 = 0 := by
    have := congrArg BitVec.toNat hrsv
    simpa [BitVec.extractLsb'_toNat, Nat.shiftRight_eq_div_pow] using this
  rw [decodeReading_toNat]
  omega

/-- Settles O40: INIT leaves zero slots, and READ's finish writes the decode of the new word. -/
theorem stepKeepsWellFormedRange : Obligations.StepKeepsWellFormedRange := by
  unfold Obligations.StepKeepsWellFormedRange
  intro s t hs h hinited hwf i
  obtain ⟨hi, hhist, -, hwords⟩ | ⟨hhist, -, -⟩ | ⟨w, hi, hhist, -, hwords⟩ :=
    step_history_cases h
  case inl =>
    rw [hhist]
    exact hs (hi ▸ hinited) (hwords ▸ hwf) i
  case inr.inl =>
    rw [hhist, Hist.get_zero]
    decide
  case inr.inr =>
    rw [hwords, List.forall_mem_append, List.forall_mem_singleton] at hwf
    obtain ⟨hold, hnew⟩ := hwf
    rw [hhist, Hist.get_set]
    split
    · exact decodeReading_le_of_wellFormed hnew
    · exact hs (hi ▸ hinited) hold i

/-! ## Power-on -/

theorem returnsAreAverages_nil : ReturnsAreAverages [] :=
  fun _ _ _ heq => by simp at heq

/-- Settles O35: the line is high, `inited` is 0 and the trace is empty (R211). -/
theorem powerOnMeetsInvariants : Obligations.PowerOnMeetsInvariants := by
  unfold Obligations.PowerOnMeetsInvariants
  have hbusy : State.reset.BusyInitialized := fun hlow => by cases hlow
  have hhistory : State.reset.HistoryTracksTrace := fun hinited => by cases hinited
  have hrange : State.reset.WellFormedRange := fun hinited => by cases hinited
  exact ⟨hbusy, rfl, hhistory, ⟨hbusy, hhistory, returnsAreAverages_nil⟩, hrange⟩

end Sys2Proof.Machine
end

section
/-! PROOFS. The family 20_memory.md: what ends the wait of a READ (R62, R124), and that the trace
grows only by whole event groups (R65, R112, R122). Both go through the four transitions of a step. -/

namespace Sys2Proof.Machine

open Sys2Proof

/-! ## The wait of a READ -/

/-- Taking a command off the port changes the port and the transport's wait, and no more. -/
theorem State.afterPort_frame (s : State) :
    s.afterPort = { s with port := s.port.tail, answers := s.afterPort.answers } := by
  unfold State.afterPort
  split
  · rfl
  · rfl

/-- While an exchange is outstanding and no answer is due, the next answer still waits (R58). -/
theorem State.answers_ne_of_not_due {s : State} (hc : s.cs = .low) (hd : s.answerDue = none)
    (w : BusWord) (rest : List Answer) : s.answers ≠ ⟨0, w⟩ :: rest := by
  intro ha
  have hdue : s.answerDue = some w := State.answerDue_eq_some.mpr ⟨hc, rest, ha⟩
  simp [hd] at hdue

/-- Settles O15: with the line low a step is READ's finish on a due answer, or IDLE with none due;
INIT and READ's start need the line high. -/
theorem onlyTheTransportEndsTheWait : Obligations.OnlyTheTransportEndsTheWait := by
  unfold Obligations.OnlyTheTransportEndsTheWait
  intro s t hlow h
  obtain ⟨w, hd, rfl⟩ | ⟨hd, -, rfl⟩ | ⟨tp, c, -, -, hhigh, -⟩ | ⟨-, -, hhigh, -, -⟩ :=
    step_next_cases h
  case inl =>
    obtain ⟨-, rest, ha⟩ := State.answerDue_eq_some.mp hd
    exact .inl ⟨by simp, w, rest, ha⟩
  case inr.inl =>
    exact .inr ⟨State.answers_ne_of_not_due hlow hd, s.afterPort_frame⟩
  case inr.inr.inl => simp [hlow] at hhigh
  case inr.inr.inr => simp [hlow] at hhigh

/-! ## The growth of the trace -/

/-- Settles O25: each of the four transitions of a step appends one group of events. -/
theorem traceGrowsByWholeGroups : Obligations.TraceGrowsByWholeGroups := by
  unfold Obligations.TraceGrowsByWholeGroups
  intro s t h
  obtain ⟨w, -, rfl⟩ | ⟨-, -, rfl⟩ | ⟨tp, c, -, -, -, rfl⟩ | ⟨-, -, -, -, rfl⟩ :=
    step_next_cases h
  case inl =>
    exact ⟨_, State.readFinished_trace s.dropAnswer w, .inr (.inr (.inr ⟨w, _, rfl⟩))⟩
  case inr.inl => exact ⟨[], by simp, .inl rfl⟩
  case inr.inr.inl => exact ⟨_, by simp, .inr (.inl rfl)⟩
  case inr.inr.inr => exact ⟨_, by simp, .inr (.inr (.inl rfl))⟩

end Sys2Proof.Machine
end

section
/-! PROOFS. The family 30_encoding.md: the command map (R83, R88), the round trips of the two formats
(R81, R83), and IDLE, alone (R90) and as a run of it (R213). The command map is read off one fact: a
decoded row has the code it was decoded from. -/

namespace Sys2Proof

/-! ## The command map -/

/-- `cmd[1:0]` has four values (R83). -/
theorem cmdCode_cases (k : CmdCode) : k = 0b00#2 ∨ k = 0b01#2 ∨ k = 0b10#2 ∨ k = 0b11#2 := by
  revert k; decide

section Rows

variable {p : Command}

theorem decode_of_idle_code (h : p.cmd = 0b00#2) : decode p = .idle := by
  rw [decode, h]; rfl

theorem decode_of_init_code (h : p.cmd = 0b01#2) : decode p = .init p.transport p.chipSelect := by
  rw [decode, h]; rfl

theorem decode_of_read_code (h : p.cmd = 0b10#2) : decode p = .read := by
  rw [decode, h]; rfl

theorem decode_of_reserved_code (h : p.cmd = 0b11#2) : decode p = .reserved := by
  rw [decode, h]; rfl

/-- The row a port value decodes to has the port value's code (R88). -/
@[simp] theorem code_decode (p : Command) : (decode p).code = p.cmd := by
  obtain h | h | h | h := cmdCode_cases p.cmd
  · rw [decode_of_idle_code h, h]; rfl
  · rw [decode_of_init_code h, h]; rfl
  · rw [decode_of_read_code h, h]; rfl
  · rw [decode_of_reserved_code h, h]; rfl

theorem cmd_eq_of_decode {i : Instr} (h : decode p = i) : p.cmd = i.code := by
  rw [← h, code_decode]

theorem decode_eq_idle_iff : decode p = .idle ↔ p.cmd = 0b00#2 :=
  ⟨cmd_eq_of_decode, decode_of_idle_code⟩

theorem decode_eq_init_iff {t : TransportId} {c : LineId} :
    decode p = .init t c ↔ p.cmd = 0b01#2 ∧ p.transport = t ∧ p.chipSelect = c := by
  constructor
  · intro h
    have hcmd : p.cmd = 0b01#2 := cmd_eq_of_decode h
    rw [decode_of_init_code hcmd] at h
    cases h
    exact ⟨hcmd, rfl, rfl⟩
  · rintro ⟨hcmd, rfl, rfl⟩
    exact decode_of_init_code hcmd

theorem decode_eq_read_iff : decode p = .read ↔ p.cmd = 0b10#2 :=
  ⟨cmd_eq_of_decode, decode_of_read_code⟩

theorem decode_eq_reserved_iff : decode p = .reserved ↔ p.cmd = 0b11#2 :=
  ⟨cmd_eq_of_decode, decode_of_reserved_code⟩

end Rows

/-- INIT's code is the INIT request alone (R83). -/
theorem cmdCode_eq_init_iff (k : CmdCode) :
    k = 0b01#2 ↔ k.getLsbD 0 = true ∧ k.getLsbD 1 = false := by
  revert k; decide

/-- READ's code is the READ request alone (R83). -/
theorem cmdCode_eq_read_iff (k : CmdCode) :
    k = 0b10#2 ↔ k.getLsbD 0 = false ∧ k.getLsbD 1 = true := by
  revert k; decide

/-! ## Round trips -/

@[simp] theorem decode_encode (i : Instr) : decode (encode i) = i := by
  cases i with
  | idle => exact decode_of_idle_code rfl
  | init t c => exact decode_of_init_code rfl
  | read => exact decode_of_read_code rfl
  | reserved => exact decode_of_reserved_code rfl

@[simp] theorem encode_decode_cmd (p : Command) : (encode (decode p)).cmd = p.cmd :=
  code_decode p

/-- With INIT's code the operand wires survive too (R84). -/
theorem encode_decode_of_init_code {p : Command} (h : p.cmd = 0b01#2) : encode (decode p) = p := by
  rw [decode_of_init_code h]
  cases p
  cases h
  rfl

/-- The five fields are adjacent, from bit 15 down to bit 0 (R81). -/
@[simp] theorem Reading.toWord_ofWord (w : BusWord) : (Reading.ofWord w).toWord = w := by
  have hmag : w.extractLsb' 15 1 ++ w.extractLsb' 3 12 = w.extractLsb' 3 13 :=
    BitVec.extractLsb'_append_extractLsb'_eq_extractLsb' rfl
  have hfault : w.extractLsb' 3 13 ++ w.extractLsb' 2 1 = w.extractLsb' 2 14 :=
    BitVec.extractLsb'_append_extractLsb'_eq_extractLsb' rfl
  have hid : w.extractLsb' 2 14 ++ w.extractLsb' 1 1 = w.extractLsb' 1 15 :=
    BitVec.extractLsb'_append_extractLsb'_eq_extractLsb' rfl
  have hundef : w.extractLsb' 1 15 ++ w.extractLsb' 0 1 = w.extractLsb' 0 16 :=
    BitVec.extractLsb'_append_extractLsb'_eq_extractLsb' rfl
  simp only [Reading.ofWord, Reading.toWord, hmag, hfault, hid, hundef, BitVec.extractLsb'_eq_self]

/-- What lies above the lowest bit is read past it. -/
theorem extractLsb'_succ_append_bit {v : Nat} (x : BitVec v) (b : BitVec 1) (start len : Nat) :
    (x ++ b).extractLsb' (start + 1) len = x.extractLsb' start len :=
  BitVec.extractLsb'_append_eq_of_le (Nat.le_add_left 1 start)

@[simp] theorem Reading.ofWord_toWord (r : Reading) : Reading.ofWord r.toWord = r := by
  obtain ⟨rsv, mag, fault, id, undef⟩ := r
  have habove (start len : Nat) : (rsv ++ mag ++ fault ++ id ++ undef).extractLsb' (start + 3) len =
      (rsv ++ mag).extractLsb' start len := by
    rw [extractLsb'_succ_append_bit, extractLsb'_succ_append_bit, extractLsb'_succ_append_bit]
  have hrsv : (rsv ++ mag ++ fault ++ id ++ undef).extractLsb' 15 1 = rsv := by
    rw [habove 12, BitVec.extractLsb'_append_eq_left]
  have hmag : (rsv ++ mag ++ fault ++ id ++ undef).extractLsb' 3 12 = mag := by
    rw [habove 0, BitVec.extractLsb'_append_eq_right]
  have hfault : (rsv ++ mag ++ fault ++ id ++ undef).extractLsb' 2 1 = fault := by
    rw [extractLsb'_succ_append_bit, extractLsb'_succ_append_bit, BitVec.extractLsb'_append_eq_right]
  have hid : (rsv ++ mag ++ fault ++ id ++ undef).extractLsb' 1 1 = id := by
    rw [extractLsb'_succ_append_bit, BitVec.extractLsb'_append_eq_right]
  have hundef : (rsv ++ mag ++ fault ++ id ++ undef).extractLsb' 0 1 = undef :=
    BitVec.extractLsb'_append_eq_right
  rw [Reading.ofWord, Reading.mk.injEq]
  exact ⟨hrsv, hmag, hfault, hid, hundef⟩

end Sys2Proof

namespace Sys2Proof.Machine

open Sys2Proof

/-- Settles O1: the round trips of the two formats. -/
theorem decodeEncodeAgree : Obligations.DecodeEncodeAgree := by
  unfold Obligations.DecodeEncodeAgree
  exact ⟨decode_encode, fun p => ⟨encode_decode_cmd p, encode_decode_of_init_code⟩,
    Reading.toWord_ofWord, Reading.ofWord_toWord⟩

/-- Settles O2: each code is the code of one row. -/
theorem commandMapHasFourRows : Obligations.CommandMapHasFourRows := by
  unfold Obligations.CommandMapHasFourRows
  exact fun p => ⟨decode_eq_idle_iff, fun _ _ => decode_eq_init_iff, decode_eq_read_iff,
    decode_eq_reserved_iff, cmdCode_eq_init_iff p.cmd, cmdCode_eq_read_iff p.cmd⟩

/-- Settles O3: the table words by the rows of the command map, the Readings by evaluation. -/
theorem knownCodesAndWordsDecode : Obligations.KnownCodesAndWordsDecode := by
  unfold Obligations.KnownCodesAndWordsDecode
  refine ⟨?idle, ?init, ?read, ?reserved, ?words⟩
  case idle => exact congrArg some (decode_of_idle_code rfl)
  case init => exact congrArg some (decode_of_init_code rfl)
  case read => exact congrArg some (decode_of_read_code rfl)
  case reserved => exact congrArg some (decode_of_reserved_code rfl)
  case words => decide

/-! ## IDLE -/

@[simp] theorem exec_idle (s : State) : exec .idle s = .next s := rfl

/-- Settles O5: IDLE answers the state it was given (R90). -/
theorem idleChangesNothing : Obligations.IdleChangesNothing := by
  unfold Obligations.IdleChangesNothing
  exact exec_idle

/-- A caller that presents only IDLE, or nothing, presents IDLE now (R90). -/
theorem State.decode_presented_of_only_idle {s : State} (h : ∀ p ∈ s.port, p.cmd = 0b00#2) :
    decode s.presented = .idle := by
  cases hp : s.port with
  | nil => exact State.decode_presented_of_nil hp
  | cons p ps =>
    rw [State.presented_of_cons hp]
    exact decode_of_idle_code (h p (by simp [hp]))

/-- Where no exchange is outstanding, or none will be answered, and only IDLE is presented, a run
uses up the port and changes nothing else. -/
theorem runSteps_of_only_idle (n : Nat) {s : State} (hs : s.cs = .high ∨ s.answers = [])
    (hp : ∀ p ∈ s.port, p.cmd = 0b00#2) :
    runSteps n s = .next { s with port := s.port.drop n } := by
  induction n generalizing s with
  | zero => exact runSteps_zero s
  | succ n ih =>
    have hstep : step s = .next { s with port := s.port.tail } := by
      rw [step_of_no_answer hs, State.decode_presented_of_only_idle hp, exec_idle]
    have hrun := ih (s := { s with port := s.port.tail }) hs
      fun p hmem => hp p (List.mem_of_mem_tail hmem)
    rw [runSteps_succ_of_next n hstep, hrun]
    simp

/-- Settles O32: with the line high no exchange is outstanding. -/
theorem idleBlockWaitsForCommand : Obligations.IdleBlockWaitsForCommand := by
  unfold Obligations.IdleBlockWaitsForCommand
  exact fun n s hc hp => runSteps_of_only_idle n (.inl hc) hp

end Sys2Proof.Machine
end

section
/-! PROOFS. The family 40_init.md: what INIT does at each level of the line (R110 to R112), and that
it forgets what was before it (R115, R216). The second rests on one fact: what INIT leaves, apart from
the trace behind it, is what a first INIT after power-on leaves. -/

namespace Sys2Proof.Machine

open Sys2Proof

/-! ## INIT at each level of the line -/

/-- INIT while a READ is in flight faults (R183). -/
theorem exec_init_of_low {s : State} (hc : s.cs = .low) (t : TransportId) (c : LineId) :
    exec (.init t c) s = .fault (.overlap .init) := by
  have hb : s.busy = true := State.busy_eq_true.mpr hc
  change execInit t c s = _
  rw [execInit, hb]; rfl

/-- Settles O6: INIT answers `State.initialized` with the line high and faults with it low. -/
theorem initCompletes : Obligations.InitCompletes := by
  unfold Obligations.InitCompletes
  exact fun s t c => ⟨fun hc => exec_init_of_high hc t c, fun hc => exec_init_of_low hc t c⟩

/-! ## INIT forgets -/

/-- What a first INIT after power-on leaves, in front of a given caller and transport. -/
def State.firstInit (port : List Command) (answers : List Answer) (t : TransportId) (c : LineId) :
    State :=
  { State.reset with port := port, answers := answers }.initialized t c

/-- With the line high INIT leaves what a first INIT leaves, behind the trace so far (R115, R216). -/
theorem initialized_eq_firstInit {s : State} (hc : s.cs = .high) (t : TransportId) (c : LineId) :
    s.initialized t c = (State.firstInit s.port s.answers t c).withEarlier s.trace := by
  cases s
  cases hc
  rfl

/-- Settles O34: `u` is what a first INIT leaves, and no run from it reads the trace (R65). -/
theorem reinitializationForgets : Obligations.ReinitializationForgets := by
  unfold Obligations.ReinitializationForgets
  intro s₁ s₂ t c hc₁ hc₂ hport hanswers
  refine ⟨State.firstInit s₁.port s₁.answers t c, rfl, fun s hs => ⟨?init, ?runs⟩⟩
  case init =>
    obtain rfl | rfl := hs
    · rw [exec_init_of_high hc₁, initialized_eq_firstInit hc₁]; rfl
    · rw [exec_init_of_high hc₂, initialized_eq_firstInit hc₂, hport, hanswers]; rfl
  case runs => exact fun n => traceIsNeverRead n _ s.trace

end Sys2Proof.Machine
end

section
/-! PROOFS. The family 41_read.md: the two steps of READ (R121, R123), an answered READ and a bus that
hangs (R122, R124, R126), the range of the result (R127, R174), the bits of a word that make no
difference (R143, R181), and that every result is the moving average of the last four words (R126,
R159). The last rests on one fact: under R35 items 3 and 4 the four slots, from the one under the
cursor backwards, hold the last four decoded words. -/

namespace Sys2Proof.Machine

open Sys2Proof

/-! ## The start step (R121) -/

/-- READ while a READ is in flight faults (R183). -/
theorem exec_read_of_low {s : State} (hc : s.cs = .low) :
    exec .read s = .fault (.overlap .read) := by
  have hb : s.busy = true := State.busy_eq_true.mpr hc
  change execRead s = _
  rw [execRead, hb]; rfl

/-- An admitted READ starts (R121). -/
theorem exec_read_of_initialized {s : State} (hc : s.cs = .high) (hn : s.inited = true) :
    exec .read s = .next s.readStarted := by
  have hb : s.busy = false := State.busy_eq_false.mpr hc
  have hu : s.uninitialized = false := State.uninitialized_eq_false.mpr hn
  change execRead s = _
  rw [execRead, hb, hu]; rfl

theorem State.readStarted_eq (s : State) : s.readStarted =
    { s with cs := .low,
             trace := s.trace ++ [.setLine s.csid .low, .exchangeStart s.tp 0x0000#16] } := by
  rw [← State.readStarted_trace]; rfl

/-- Settles O7: READ's two checks in order, and then its start. -/
theorem readStartCompletes : Obligations.ReadStartCompletes := by
  unfold Obligations.ReadStartCompletes
  exact fun s => ⟨exec_read_of_low, exec_read_of_uninitialized,
    fun hc hn => by rw [exec_read_of_initialized hc hn, State.readStarted_eq]⟩

/-! ## The finish step (R123) -/

/-- DECODE is the logical shift right by 3 (R141). -/
theorem decodeReading_eq_shift (w : BusWord) : decodeReading w = (w >>> 3).setWidth 13 := by
  apply BitVec.eq_of_toNat_eq
  rw [decodeReading_toNat, BitVec.toNat_setWidth, BitVec.toNat_ushiftRight,
    Nat.shiftRight_eq_div_pow]
  omega

/-- The average is the sum shifted right by 2 (R157). -/
theorem average_eq_shift (sum : SumWord) : average sum = (sum >>> 2).setWidth 13 := by
  apply BitVec.eq_of_toNat_eq
  rw [average_toNat, BitVec.toNat_setWidth, BitVec.toNat_ushiftRight, Nat.shiftRight_eq_div_pow]
  omega

/-- The result is the average shifted right by 2 (R171). -/
theorem scale_eq_shift (avg : AvgWord) : scale avg = (avg >>> 2).setWidth 11 := by
  apply BitVec.eq_of_toNat_eq
  rw [scale_toNat, BitVec.toNat_setWidth, BitVec.toNat_ushiftRight, Nat.shiftRight_eq_div_pow]
  omega

/-- The transport's turn, where the wait of the next answer is over (R123). -/
theorem step_of_answer {s : State} {w : BusWord} {rest : List Answer} (hc : s.cs = .low)
    (ha : s.answers = ⟨0, w⟩ :: rest) : step s = .next ({ s with answers := rest }.readFinished w) := by
  have hdrop : s.dropAnswer = { s with answers := rest } := by rw [State.dropAnswer, ha]; rfl
  rw [step_of_due (State.answerDue_eq_some.mpr ⟨hc, rest, ha⟩), hdrop]

theorem State.readFinished_eq (s : State) (w : BusWord) : s.readFinished w =
    { s with cs := .high, hist := s.hist.set s.cursor (decodeReading w), cursor := s.cursor + 1#2,
             trace := s.trace ++ [.exchangeDone s.tp w, .setLine s.csid .high,
               .returned (s.insertDecoded (decodeReading w)).temperature] } := by
  rw [← State.readFinished_trace]; rfl

/-- Only READ's finish records a received word, and it is the word that was due (R122). -/
theorem step_records_only_due_word {s t : State} (h : step s = .next t) {tp : TransportId}
    {w : BusWord} (hne : t.trace.count (.exchangeDone tp w) ≠ s.trace.count (.exchangeDone tp w)) :
    s.answerDue = some w := by
  obtain ⟨w', hd, rfl⟩ | ⟨-, -, rfl⟩ | ⟨tp', c, -, -, -, rfl⟩ | ⟨-, -, -, -, rfl⟩ :=
    step_next_cases h
  case inl =>
    rw [hd]
    by_contra hw
    have hother : Event.exchangeDone s.tp w' ≠ .exchangeDone tp w :=
      fun heq => hw (by cases heq; rfl)
    exact hne (by simp [List.count_append, hother])
  case inr.inl => simp at hne
  case inr.inr.inl => simp [List.count_append] at hne
  case inr.inr.inr => simp [List.count_append] at hne

/-- Settles O8: the finish is `State.readFinished`, and no other transition records a word. -/
theorem readFinishCompletes : Obligations.ReadFinishCompletes := by
  unfold Obligations.ReadFinishCompletes
  refine ⟨fun s w rest hc ha => ?finish, fun s t h tp w hne => ?only⟩
  case finish =>
    refine ⟨s.hist.set s.cursor (decodeReading w), _, _, _, fun i => ?slots, rfl, rfl, rfl, ?next⟩
    case slots => rw [Hist.get_set, decodeReading_eq_shift]
    case next =>
      rw [step_of_answer hc ha, State.readFinished_eq, ← average_eq_shift, ← scale_eq_shift]; rfl
  case only => exact State.answerDue_eq_some.mp (step_records_only_due_word h hne)

/-! ## The result in natural numbers -/

/-- AVERAGE and SCALE together divide the exact sum by 16 (R156, R157, R171). -/
theorem State.temperature_toNat (s : State) : s.temperature.toNat =
    ((s.hist.get 0#2).toNat + (s.hist.get 1#2).toNat + (s.hist.get 2#2).toNat +
      (s.hist.get 3#2).toNat) / 16 := by
  rw [State.temperature, scale_toNat, average_toNat, State.slotSum_toNat, Nat.div_div_eq_div_mul]

/-- Overwriting a slot takes its old value out of the sum and puts the new one in. -/
theorem State.slotSum_writeSlot (s : State) (i : SlotIndex) (d : SlotWord) :
    (s.writeSlot i d).slotSum.toNat + (s.hist.get i).toNat = s.slotSum.toNat + d.toNat := by
  simp only [State.slotSum_toNat, State.writeSlot_hist, Hist.get_set]
  obtain rfl | rfl | rfl | rfl := slotIndex_cases i <;> simp <;> omega

/-- Setting a clear bit 15 adds its value to the word. -/
theorem or_bit15_toNat {w : BusWord} (h : w.getLsbD 15 = false) :
    (w ||| 0x8000#16).toNat = w.toNat + 2 ^ 15 := by
  have hbit : w.toNat / 2 ^ 15 % 2 ≠ 1 := by
    simpa [BitVec.getLsbD, Nat.testBit_eq_decide_div_mod_eq] using h
  have hlt : w.toNat < 2 ^ 15 := by omega
  rw [BitVec.toNat_or, Nat.or_comm, Nat.add_comm]
  exact (Nat.two_pow_add_eq_or_of_lt hlt 1).symm

/-- Setting a clear bit 15 adds 4096 to the decode (R142). -/
theorem decodeReading_or_bit15 {w : BusWord} (h : w.getLsbD 15 = false) :
    (decodeReading (w ||| 0x8000#16)).toNat = (decodeReading w).toNat + 4096 := by
  rw [decodeReading_toNat, decodeReading_toNat, or_bit15_toNat h]
  omega

/-- Settles O21: the bounds are those of four slots, and 4096 more in a slot is 1024 more in the
average and 256 more in the result. -/
theorem resultRangeAndMalformedWord : Obligations.ResultRangeAndMalformedWord := by
  unfold Obligations.ResultRangeAndMalformedWord
  refine fun s => ⟨?all, fun hle => ?wellFormed, fun i w hw => ?malformed⟩
  case all => exact Nat.le_pred_of_lt s.temperature.isLt
  case wellFormed =>
    rw [State.temperature_toNat]
    have h0 := hle 0#2
    have h1 := hle 1#2
    have h2 := hle 2#2
    have h3 := hle 3#2
    omega
  case malformed =>
    have hsum : (s.writeSlot i (decodeReading (w ||| 0x8000#16))).slotSum.toNat =
        (s.writeSlot i (decodeReading w)).slotSum.toNat + 4096 := by
      have hset := s.slotSum_writeSlot i (decodeReading (w ||| 0x8000#16))
      have hclear := s.slotSum_writeSlot i (decodeReading w)
      rw [decodeReading_or_bit15 hw] at hset
      omega
    rw [State.temperature, State.temperature, scale_toNat, scale_toNat, average_toNat,
      average_toNat, hsum]
    omega

/-! ## READ as a whole -/

/-- An exchange that is answered after a wait, with only IDLE presented meanwhile, ends in READ's
finish one step after the wait (R122, R124). -/
theorem runSteps_of_answered_wait (n : Nat) {s : State} {w : BusWord} {rest : List Answer}
    (hc : s.cs = .low) (ha : s.answers = ⟨n, w⟩ :: rest) (hp : ∀ p ∈ s.port, p.cmd = 0b00#2) :
    runSteps (n + 1) s =
      .next ({ s with port := s.port.drop n, answers := rest }.readFinished w) := by
  induction n generalizing s with
  | zero => rw [runSteps_succ_of_next 0 (step_of_answer hc ha), runSteps_zero, List.drop_zero]
  | succ n ih =>
    have hstep : step s = .next { s with port := s.port.tail, answers := ⟨n, w⟩ :: rest } := by
      rw [step_of_wait hc ha, State.decode_presented_of_only_idle hp, exec_idle]
    have hrun := ih (s := { s with port := s.port.tail, answers := ⟨n, w⟩ :: rest }) hc rfl
      fun p hmem => hp p (List.mem_of_mem_tail hmem)
    rw [runSteps_succ_of_next (n + 1) hstep, hrun]
    simp

/-- A READ that is admitted and answered, with only IDLE presented behind it, runs to READ's finish
(R126). -/
theorem runSteps_of_answered_read (n : Nat) {s : State} {p : Command} {ps : List Command}
    {w : BusWord} {rest : List Answer} (hn : s.inited = true) (hc : s.cs = .high)
    (hport : s.port = p :: ps) (hread : p.cmd = 0b10#2) (hp : ∀ q ∈ ps, q.cmd = 0b00#2)
    (ha : s.answers = ⟨n, w⟩ :: rest) :
    runSteps (n + 2) s =
      .next ({ s.readStarted with port := ps.drop n, answers := rest }.readFinished w) := by
  have hstart : step s = .next { s with port := ps }.readStarted := by
    rw [step_of_no_answer_cons (.inl hc) hport, decode_of_read_code hread]
    exact exec_read_of_initialized hc hn
  have hwait := runSteps_of_answered_wait n (s := { s with port := ps }.readStarted) rfl ha hp
  rw [runSteps_succ_of_next (n + 1) hstart, hwait]
  rfl

/-- Settles O13: the fields of READ's finish after READ's start. -/
theorem answeredReadCompletes : Obligations.AnsweredReadCompletes := by
  unfold Obligations.AnsweredReadCompletes
  intro n s p ps w rest hn hc hport hread hp ha
  refine ⟨_, (s.insertDecoded (decodeReading w)).temperature,
    runSteps_of_answered_read n hn hc hport hread hp ha, fun i => ?slots, ?cursor, rfl, rfl, rfl,
    hc.symm, rfl, rfl, ?trace, State.temperature_toNat _⟩
  case slots => rw [← decodeReading_eq_shift]; exact s.hist.get_set s.cursor i (decodeReading w)
  case cursor => exact cursor_succ_toNat s.cursor
  case trace =>
    rw [State.readFinished_trace, State.readStarted_trace, List.append_assoc]; rfl

/-- Settles O14: a transport that never answers leaves a run of IDLE. -/
theorem hungBusHoldsTheLine : Obligations.HungBusHoldsTheLine := by
  unfold Obligations.HungBusHoldsTheLine
  exact fun n s _ ha hp => runSteps_of_only_idle n (.inr ha) hp

/-! ## The three low bits of a word make no difference -/

/-- DECODE drops the three low bits (R143). -/
theorem decodeReading_maskLowBits (w : BusWord) :
    decodeReading (maskLowBits w) = decodeReading w := by
  have hkept : ((0xFFF8#16) >>> 3).setWidth 13 = BitVec.allOnes 13 := by decide
  rw [decodeReading_eq_shift, decodeReading_eq_shift, maskLowBits, BitVec.ushiftRight_and_distrib,
    BitVec.setWidth_and, hkept, BitVec.and_allOnes]

theorem emit_maskLow (s : State) (e : Event) :
    s.maskLow.emit e.maskLow = (s.emit e).maskLow := by
  simp [State.maskLow, State.emit]

theorem driveLine_maskLow (s : State) (l : Level) :
    s.maskLow.driveLine l = (s.driveLine l).maskLow :=
  emit_maskLow { s with cs := l } (.setLine s.csid l)

theorem initialized_maskLow (s : State) (t : TransportId) (c : LineId) :
    s.maskLow.initialized t c = (s.initialized t c).maskLow :=
  emit_maskLow { s with tp := t, csid := c, cursor := 0#2, hist := Hist.zero, inited := true }
    (.setFormat t Config.bitsPerWord .idleHigh .secondEdge .msbFirst)

theorem readStarted_maskLow (s : State) : s.maskLow.readStarted = s.readStarted.maskLow := by
  rw [State.readStarted, driveLine_maskLow]
  exact emit_maskLow (s.driveLine .low) (.exchangeStart s.tp Config.wordOut)

/-- The received word goes into the history by its decode alone (R181). -/
theorem readFinished_maskLow (s : State) (w : BusWord) :
    s.maskLow.readFinished (maskLowBits w) = (s.readFinished w).maskLow := by
  have hreleased : (s.maskLow.emit (.exchangeDone s.maskLow.tp (maskLowBits w))).driveLine .high =
      ((s.emit (.exchangeDone s.tp w)).driveLine .high).maskLow := by
    rw [← driveLine_maskLow, ← emit_maskLow]; rfl
  rw [State.readFinished, hreleased, decodeReading_maskLowBits]
  exact emit_maskLow
    (((s.emit (.exchangeDone s.tp w)).driveLine .high).insertDecoded (decodeReading w)) (.returned _)

theorem dropAnswer_maskLow (s : State) : s.maskLow.dropAnswer = s.dropAnswer.maskLow := by
  simp [State.maskLow, State.dropAnswer]

/-- Clearing bits of the words to come changes no wait. -/
theorem answerDue_maskLow (s : State) : s.maskLow.answerDue = s.answerDue.map maskLowBits := by
  unfold State.answerDue
  dsimp only [State.maskLow]
  cases s.cs with
  | high => rfl
  | low =>
    cases s.answers with
    | nil => rfl
    | cons a rest =>
      obtain ⟨wait, word⟩ := a
      cases wait <;> rfl

theorem afterPort_maskLow (s : State) : s.maskLow.afterPort = s.afterPort.maskLow := by
  unfold State.afterPort
  dsimp only [State.maskLow]
  cases s.cs with
  | high => rfl
  | low => cases s.answers <;> rfl

theorem step_maskLow (s : State) : step s.maskLow = mapNext State.maskLow (step s) := by
  have hdue := answerDue_maskLow s
  cases hd : s.answerDue with
  | some w =>
    rw [hd] at hdue
    rw [step_of_due hd, step_of_due hdue, dropAnswer_maskLow, readFinished_maskLow]; rfl
  | none =>
    have hpresented : s.maskLow.presented = s.presented := rfl
    rw [hd] at hdue
    rw [step_of_not_due hd, step_of_not_due hdue, hpresented, afterPort_maskLow]
    exact exec_comm (F := State.maskLow) (fun _ => rfl) (fun _ => rfl) initialized_maskLow
      readStarted_maskLow _ _

/-- Settles O30: clearing the bits commutes with every step, and so with every run. -/
theorem discardedBitsMakeNoDifference : Obligations.DiscardedBitsMakeNoDifference := by
  unfold Obligations.DiscardedBitsMakeNoDifference
  exact runSteps_comm_of_step_comm step_maskLow

/-! ## The moving average -/

/-- The decoded value received `j` READs before the last of `ws`, 0 where there is none: what
`movingAverage` sums for `j` below 4 (`movingAverage_eq_decodedAgo`). -/
def decodedAgo (ws : List BusWord) (j : Nat) : Nat :=
  (ws.map fun w => w.toNat / 8).reverse[j]?.getD 0

theorem decodedAgo_of_getElem? {ws : List BusWord} {j k : Nat} {w : BusWord}
    (hk : ws[k]? = some w) (hlen : j + k + 1 = ws.length) : decodedAgo ws j = w.toNat / 8 := by
  have hrev : (ws.map fun w => w.toNat / 8).reverse[j]? = (ws.map fun w => w.toNat / 8)[k]? :=
    List.getElem?_reverse' (by simpa using hlen)
  simp [decodedAgo, hrev, hk]

theorem decodedAgo_of_length_le {ws : List BusWord} {j : Nat} (h : ws.length ≤ j) :
    decodedAgo ws j = 0 := by
  simp [decodedAgo, h]

/-- The sum of one more element, which counts as 0 where the list has ended. -/
theorem sum_take_succ_getD (l : List Nat) (n : Nat) :
    (l.take (n + 1)).sum = (l.take n).sum + l[n]?.getD 0 := by
  rw [List.take_add_one, List.sum_append]
  cases l[n]? <;> simp

theorem movingAverage_eq_decodedAgo (ws : List BusWord) : movingAverage ws =
    (decodedAgo ws 0 + decodedAgo ws 1 + decodedAgo ws 2 + decodedAgo ws 3) / 16 := by
  simp only [movingAverage, sum_take_succ_getD, List.take_zero, List.sum_nil, Nat.zero_add,
    Nat.div_div_eq_div_mul, decodedAgo]

/-- Under R35 items 3 and 4 the slot `j + 1` places behind the cursor holds the decoded value
received `j` READs ago (R153). -/
theorem State.HistoryHolds.get_toNat {s : State} {ws : List BusWord} (hs : s.HistoryHolds ws)
    {i : SlotIndex} {j : Nat} (hj : j < 4) (hi : (i.toNat + j + 1) % 4 = s.cursor.toNat) :
    (s.hist.get i).toNat = decodedAgo ws j := by
  obtain ⟨hcursor, hslots⟩ := hs
  obtain ⟨hlatest, hnone⟩ := hslots i
  have hlt : i.toNat < 4 := i.isLt
  by_cases hlen : j < ws.length
  case pos =>
    have hk : ws[ws.length - 1 - j]? = some ws[ws.length - 1 - j] :=
      List.getElem?_eq_getElem (by omega)
    rw [decodedAgo_of_getElem? hk (by omega)]
    exact hlatest _ _ hk (by omega) fun l _ _ => by omega
  case neg =>
    rw [hnone fun k _ => by omega, decodedAgo_of_length_le (by omega)]
    rfl

/-- The four slots can be summed from the cursor backwards. -/
theorem Hist.sum_from_cursor (h : Hist) (c : SlotIndex) :
    (h.get (c - 1#2)).toNat + (h.get (c - 2#2)).toNat + (h.get (c - 3#2)).toNat + (h.get c).toNat =
      (h.get 0#2).toNat + (h.get 1#2).toNat + (h.get 2#2).toNat + (h.get 3#2).toNat := by
  obtain rfl | rfl | rfl | rfl := slotIndex_cases c <;> simp <;> omega

/-- Under R35 items 3 and 4 the result is the moving average (R126, R159). -/
theorem State.HistoryHolds.temperature_toNat {s : State} {ws : List BusWord}
    (hs : s.HistoryHolds ws) : s.temperature.toNat = movingAverage ws := by
  have h0 : (s.hist.get (s.cursor - 1#2)).toNat = decodedAgo ws 0 :=
    hs.get_toNat (by decide) (by bv_omega)
  have h1 : (s.hist.get (s.cursor - 2#2)).toNat = decodedAgo ws 1 :=
    hs.get_toNat (by decide) (by bv_omega)
  have h2 : (s.hist.get (s.cursor - 3#2)).toNat = decodedAgo ws 2 :=
    hs.get_toNat (by decide) (by bv_omega)
  have h3 : (s.hist.get s.cursor).toNat = decodedAgo ws 3 :=
    hs.get_toNat (by decide) (by bv_omega)
  rw [State.temperature_toNat, movingAverage_eq_decodedAgo, ← Hist.sum_from_cursor _ s.cursor, h0,
    h1, h2, h3]

/-- One more event adds one result to check where it is a result, and none where it is not. -/
theorem returnsAreAverages_concat {tr : List Event} {e : Event} :
    ReturnsAreAverages (tr ++ [e]) ↔ ReturnsAreAverages tr ∧
      ∀ temp, e = .returned temp → temp.toNat = movingAverage (wordsSinceInit tr) := by
  constructor
  · exact fun h => ⟨fun before temp after heq => h before temp (after ++ [e]) (by simp [heq]),
      fun temp he => h tr temp [] (by rw [he])⟩
  · rintro ⟨hold, hnew⟩ before temp after heq
    obtain rfl | ⟨init, last, rfl⟩ := List.eq_nil_or_concat after
    · obtain ⟨rfl, he⟩ := List.append_inj' heq rfl
      exact hnew temp (List.head_eq_of_cons_eq he)
    · rw [List.concat_eq_append, ← List.cons_append, ← List.append_assoc] at heq
      exact hold before temp init (List.append_inj_left' heq rfl)

/-- Events that return nothing add no result to check. -/
theorem returnsAreAverages_append {tr es : List Event} (h : ReturnsAreAverages tr)
    (hes : ∀ temp, .returned temp ∉ es) : ReturnsAreAverages (tr ++ es) := by
  induction es generalizing tr with
  | nil => rwa [List.append_nil]
  | cons e es ih =>
    have he : ReturnsAreAverages (tr ++ [e]) :=
      returnsAreAverages_concat.mpr ⟨h, fun temp heq => (hes temp (by simp [heq])).elim⟩
    rw [List.append_cons]
    exact ih he fun temp hmem => hes temp (List.mem_cons_of_mem e hmem)

/-- READ's finish returns the average of the words received, its own included (R123, R126). -/
theorem returnsAreAverages_readFinished {s : State} (h : ReturnsAreAverages s.trace)
    (hs : s.HistoryHolds (wordsSinceInit s.trace)) (w : BusWord) :
    ReturnsAreAverages (s.readFinished w).trace := by
  have hwords : wordsSinceInit (s.trace ++ [.exchangeDone s.tp w, .setLine s.csid .high]) =
      wordsSinceInit s.trace ++ [w] := by
    rw [wordsSinceInit_append]; rfl
  have hinserted : (s.insertDecoded (decodeReading w)).HistoryHolds (wordsSinceInit s.trace ++ [w]) :=
    State.historyHolds_append hs rfl rfl
  have hsplit : (s.readFinished w).trace =
      s.trace ++ [.exchangeDone s.tp w, .setLine s.csid .high] ++
        [.returned (s.insertDecoded (decodeReading w)).temperature] := by
    rw [State.readFinished_trace, List.append_assoc]; rfl
  rw [hsplit, returnsAreAverages_concat, hwords]
  refine ⟨returnsAreAverages_append h (by simp), fun temp heq => ?_⟩
  cases heq
  exact hinserted.temperature_toNat

/-- Settles O39: only READ's finish returns, and it needs an INIT behind it, so that the history
tracks the trace. -/
theorem stepKeepsReturningAverages : Obligations.StepKeepsReturningAverages := by
  unfold Obligations.StepKeepsReturningAverages
  rintro s t ⟨hbusy, hhistory, hreturns⟩ h
  refine ⟨stepKeepsBusyInitialized s t hbusy h, stepKeepsHistory s t hhistory h, ?_⟩
  obtain ⟨w, hd, rfl⟩ | ⟨-, -, rfl⟩ | ⟨tp, c, -, -, -, rfl⟩ | ⟨-, -, -, -, rfl⟩ :=
    step_next_cases h
  case inl =>
    obtain ⟨hlow, -⟩ := State.answerDue_eq_some.mp hd
    exact returnsAreAverages_readFinished (s := s.dropAnswer) hreturns (hhistory (hbusy hlow)) w
  case inr.inl => simpa using hreturns
  case inr.inr.inl =>
    rw [State.initialized_trace, State.afterPort_trace]
    exact returnsAreAverages_append hreturns (by simp)
  case inr.inr.inr =>
    rw [State.readStarted_trace, State.afterPort_trace]
    exact returnsAreAverages_append hreturns (by simp)

end Sys2Proof.Machine
end

section
/-! PROOFS. The family 42_decode.md: DECODE drops the low three bits of a word and keeps the other
thirteen, bit 15 among them (R141, R142), and so it is monotone and eight to one (R146). -/

namespace Sys2Proof.Machine

open Sys2Proof

/-! ## The decode and the fields of the Reading -/

/-- The decoded value is `{rsv, mag}` (R141). -/
theorem decodeReading_eq_rsv_append_mag (w : BusWord) :
    decodeReading w = (Reading.ofWord w).rsv ++ (Reading.ofWord w).mag :=
  have happend : w.extractLsb' 15 1 ++ w.extractLsb' 3 12 = w.extractLsb' 3 13 :=
    BitVec.extractLsb'_append_extractLsb'_eq_extractLsb' rfl
  happend.symm

/-- The reserved bit has the weight 4096 (R142). -/
theorem decodeReading_toNat_eq_rsv_add_mag (w : BusWord) : (decodeReading w).toNat =
    4096 * (Reading.ofWord w).rsv.toNat + (Reading.ofWord w).mag.toNat := by
  rw [decodeReading_eq_rsv_append_mag, BitVec.toNat_append, Nat.shiftLeft_eq, Nat.mul_comm]
  exact (Nat.two_pow_add_eq_or_of_lt (Reading.ofWord w).mag.isLt _).symm

/-- The reserved bit is bit 15 (R81). -/
theorem Reading.ofWord_rsv_toNat (w : BusWord) :
    (Reading.ofWord w).rsv.toNat = (w.getLsbD 15).toNat := by
  rw [Reading.ofWord, BitVec.extractLsb'_toNat, BitVec.getLsbD, Nat.toNat_testBit,
    Nat.shiftRight_eq_div_pow]

/-- Settles O16: the decoded value by its fields, the reserved bit deciding its half of the range. -/
theorem decodeShiftsWithoutMask : Obligations.DecodeShiftsWithoutMask := by
  unfold Obligations.DecodeShiftsWithoutMask
  intro w
  have hfields := decodeReading_toNat_eq_rsv_add_mag w
  refine ⟨decodeReading_eq_shift w, decodeReading_toNat w, hfields, fun hset => ?set,
    fun hclear => ?clear⟩
  case set =>
    rw [hfields, Reading.ofWord_rsv_toNat, hset]
    exact Nat.le_add_right 4096 _
  case clear =>
    rw [hfields, Reading.ofWord_rsv_toNat, hclear, Bool.toNat_false, Nat.mul_zero, Nat.zero_add]
    exact Nat.le_pred_of_lt (Reading.ofWord w).mag.isLt

/-! ## The words with a given decode (R146) -/

theorem decodeReading_mono {w₁ w₂ : BusWord} (h : w₁.toNat ≤ w₂.toNat) :
    (decodeReading w₁).toNat ≤ (decodeReading w₂).toNat := by
  rw [decodeReading_toNat, decodeReading_toNat]
  exact Nat.div_le_div_right h

/-- A word is its decode followed by its low three bits. -/
theorem decodeReading_append_low (w : BusWord) : decodeReading w ++ w.extractLsb' 0 3 = w :=
  (BitVec.extractLsb'_append_extractLsb'_eq_extractLsb' rfl).trans BitVec.extractLsb'_eq_self

/-- No low three bits reach the decode (R143). -/
theorem decodeReading_append (d : SlotWord) (low : BitVec 3) : decodeReading (d ++ low) = d :=
  BitVec.extractLsb'_append_eq_left

/-- The words that decode to `d` (`mem_wordsOfDecode`): `d` followed by any three low bits. -/
def wordsOfDecode (d : SlotWord) : List BusWord :=
  (List.finRange 8).map fun low => d ++ BitVec.ofFin (w := 3) low

theorem mem_wordsOfDecode {d : SlotWord} {w : BusWord} :
    w ∈ wordsOfDecode d ↔ decodeReading w = d := by
  rw [wordsOfDecode, List.mem_map]
  constructor
  · rintro ⟨low, -, rfl⟩
    exact decodeReading_append d _
  · rintro rfl
    exact ⟨(w.extractLsb' 0 3).toFin, List.mem_finRange _, decodeReading_append_low w⟩

theorem nodup_wordsOfDecode (d : SlotWord) : (wordsOfDecode d).Nodup := by
  have hinj : Function.Injective fun low => d ++ BitVec.ofFin (w := 3) low :=
    fun _ _ h => BitVec.ofFin.inj ((BitVec.append_right_inj d).mp h)
  exact (List.nodup_finRange 8).map hinj

theorem length_wordsOfDecode (d : SlotWord) : (wordsOfDecode d).length = 8 := by
  rw [wordsOfDecode, List.length_map, List.length_finRange]

/-- Settles O17: division by 8 is monotone, and the low three bits of a word are free. -/
theorem decodeMonotoneAndEightToOne : Obligations.DecodeMonotoneAndEightToOne := by
  unfold Obligations.DecodeMonotoneAndEightToOne
  exact ⟨fun _ _ => decodeReading_mono, fun d => ⟨wordsOfDecode d, nodup_wordsOfDecode d,
    length_wordsOfDecode d, fun _ => mem_wordsOfDecode⟩⟩

end Sys2Proof.Machine
end

section
/-! PROOFS. The family 43_history_average.md: INSERT writes one slot and advances the cursor (R151,
R152), the sum is exact and the average its quarter (R156, R157), and a steady input is biased low
until four READs after INIT (R159, R220). -/

namespace Sys2Proof.Machine

open Sys2Proof

/-- Settles O18: by the laws of the slots and of the cursor. -/
theorem insertWritesOneSlot : Obligations.InsertWritesOneSlot := by
  unfold Obligations.InsertWritesOneSlot
  exact fun s d => ⟨s.hist.get_set_same s.cursor d, fun _ hne => s.hist.get_set_other d hne,
    cursor_succ_toNat s.cursor, rfl⟩

/-- Four slots of at most `m` sum to at most `4 * m` (R156). -/
theorem State.slotSum_le {s : State} {m : Nat} (hle : ∀ i, (s.hist.get i).toNat ≤ m) :
    s.slotSum.toNat ≤ 4 * m := by
  rw [State.slotSum_toNat]
  have h0 := hle 0#2
  have h1 := hle 1#2
  have h2 := hle 2#2
  have h3 := hle 3#2
  omega

/-- Settles O19: the bounds are those of four slots. -/
theorem averageOfExactSum : Obligations.AverageOfExactSum := by
  unfold Obligations.AverageOfExactSum
  refine fun s => ⟨s.slotSum_toNat, State.slotSum_le fun i => Nat.le_pred_of_lt (s.hist.get i).isLt,
    average_toNat s.slotSum, rfl, fun hle => ?_⟩
  have hsum : s.slotSum.toNat ≤ 4 * 4095 := State.slotSum_le hle
  exact ⟨hsum, average_toNat s.slotSum ▸ Nat.div_le_of_le_mul hsum⟩

/-- Of `k` equal words the last four count, and fewer than four count as they are (R159). -/
theorem movingAverage_replicate (k : Nat) (w : BusWord) :
    movingAverage (List.replicate k w) = min k 4 * (w.toNat / 8) / 16 := by
  rw [movingAverage, List.map_replicate, List.reverse_replicate, List.take_replicate,
    List.sum_replicate_nat, Nat.div_div_eq_div_mul, Nat.min_comm]

/-- Settles O22: the result is the moving average of the words, and these are equal. -/
theorem steadyInputWarmsUp : Obligations.SteadyInputWarmsUp := by
  unfold Obligations.SteadyInputWarmsUp
  exact fun _ k w hs => hs.temperature_toNat.trans (movingAverage_replicate k w)

end Sys2Proof.Machine
end

section
/-! PROOFS. The family 44_scale.md: SCALE's shift right by 2 is the truncated multiplication by
1023.75 / 4095, which is a quarter (R171). -/

namespace Sys2Proof.Machine

open Sys2Proof

/-- SCALE is the truncation of the exact product with a quarter (R171). -/
theorem scale_eq_floor_mul_quarter (avg : AvgWord) :
    ((scale avg).toNat : ℤ) = ⌊(avg.toNat : ℚ) * 0.25⌋ := by
  have hquarter : (avg.toNat : ℚ) * 0.25 = (avg.toNat : ℚ) / (4 : ℕ) := by
    norm_num [div_eq_mul_inv]
  rw [hquarter, Rat.floor_natCast_div_natCast, scale_toNat, Int.natCast_ediv]

/-- The factor 1023 / 4092 of R172 is a quarter as well. -/
theorem scale_toNat_eq_mul_div (avg : AvgWord) :
    (scale avg).toNat = avg.toNat * 1023 / 4092 :=
  (scale_toNat avg).trans (Nat.mul_div_mul_right avg.toNat 4 (by decide : 0 < 1023)).symm

/-- Settles O20: each of the factors is a quarter, and the shift divides by 4. -/
theorem scaleEqualsMultiplication : Obligations.ScaleEqualsMultiplication := by
  unfold Obligations.ScaleEqualsMultiplication
  have hfactor : (1023.75 / 4095 : ℚ) = 0.25 := by norm_num
  rw [hfactor]
  exact fun a => ⟨scale_eq_floor_mul_quarter a, scale_eq_floor_mul_quarter a,
    scale_toNat_eq_mul_div a, scale_eq_shift a⟩

end Sys2Proof.Machine
end

section
/-! PROOFS. The family 60_exceptions.md: the three faults, each exactly on its condition (R182 to R184)
and in their order (R185), and that no step is refused. All of it is read off one fact: what a port
value faults with. -/

namespace Sys2Proof.Machine

open Sys2Proof

/-! ## What a port value faults with -/

/-- The reserved code faults in every state, before any other check (R184, R185). -/
@[simp] theorem exec_reserved (s : State) : exec .reserved s = .fault .reservedCommand := rfl

/-- The three faults, each exactly on its condition (R182 to R184). No two of the conditions meet,
which is the order of R185: `NotInitialized` needs the line high. -/
theorem exec_decode_eq_fault_iff {p : Command} {s : State} {f : Fault} :
    exec (decode p) s = .fault f ↔
      (p.cmd = 0b11#2 ∧ f = .reservedCommand) ∨
      (p.cmd = 0b01#2 ∧ s.cs = .low ∧ f = .overlap .init) ∨
      (p.cmd = 0b10#2 ∧ s.cs = .low ∧ f = .overlap .read) ∨
      (p.cmd = 0b10#2 ∧ s.cs = .high ∧ s.inited = false ∧ f = .notInitialized) := by
  constructor
  · intro h
    obtain ⟨hi, hf⟩ | ⟨t, c, hi, hc, hf⟩ | ⟨hi, hc, hf⟩ | ⟨hi, hc, hn, hf⟩ := exec_fault_cases h
    · exact .inl ⟨cmd_eq_of_decode hi, hf⟩
    · exact .inr (.inl ⟨cmd_eq_of_decode hi, hc, hf⟩)
    · exact .inr (.inr (.inl ⟨cmd_eq_of_decode hi, hc, hf⟩))
    · exact .inr (.inr (.inr ⟨cmd_eq_of_decode hi, hc, hn, hf⟩))
  · rintro (⟨hp, rfl⟩ | ⟨hp, hc, rfl⟩ | ⟨hp, hc, rfl⟩ | ⟨hp, hc, hn, rfl⟩)
    · rw [decode_of_reserved_code hp, exec_reserved]
    · rw [decode_of_init_code hp, exec_init_of_low hc]
    · rw [decode_of_read_code hp, exec_read_of_low hc]
    · rw [decode_of_read_code hp, exec_read_of_uninitialized hc hn]

/-- Settles O9: of the four conditions only the reserved code's is left. -/
theorem reservedCodeFaults : Obligations.ReservedCodeFaults := by
  unfold Obligations.ReservedCodeFaults
  intro s p
  rw [exec_decode_eq_fault_iff]
  simp

/-- Settles O10: of the four conditions only that of the command's own overlap is left. -/
theorem overlapFaults : Obligations.OverlapFaults := by
  unfold Obligations.OverlapFaults
  intro s p op
  rw [exec_decode_eq_fault_iff]
  cases op with
  | init => simp [and_comm]
  | read => simp [and_comm]

/-- Settles O11: of the four conditions only that of a READ with the line high is left. -/
theorem readBeforeInitFaults : Obligations.ReadBeforeInitFaults := by
  unfold Obligations.ReadBeforeInitFaults
  intro s p
  rw [exec_decode_eq_fault_iff]
  simp

/-! ## The answer and a command in either order (R185) -/

/-- Settles O12: a due answer makes the step READ's finish, which leaves the port and drives the line
high. Where the answer still waits the command meets the line low. -/
theorem answerAndCommandInEitherOrder : Obligations.AnswerAndCommandInEitherOrder := by
  unfold Obligations.AnswerAndCommandInEitherOrder
  intro s p ps w n rest hc hport hcmd
  refine ⟨fun ha => ?answer_first, fun ha => ?command_first⟩
  case answer_first =>
    exact ⟨_, step_of_answer hc ha, rfl, hport, step_of_no_answer_cons (.inl rfl) hport⟩
  case command_first =>
    rw [step_of_wait hc ha, State.presented_of_cons hport]
    refine (overlapFaults _ p _).mpr ⟨hc, ?_⟩
    obtain hread | hinit := hcmd
    · simp [hread]
    · simp [hinit]

/-! ## No step is refused -/

/-- Every row of the command map has its meaning (R88). -/
theorem exec_ne_refused (i : Instr) (s : State) (r : Refusal) : exec i s ≠ .refused r := by
  cases i with
  | idle => simp
  | init t c =>
    cases hc : s.cs with
    | low => simp [exec_init_of_low hc]
    | high => simp [exec_init_of_high hc]
  | read =>
    cases hc : s.cs with
    | low => simp [exec_read_of_low hc]
    | high =>
      cases hn : s.inited with
      | false => simp [exec_read_of_uninitialized hc hn]
      | true => simp [exec_read_of_initialized hc hn]
  | reserved => simp

/-- Settles O26: a due answer finishes the READ, and otherwise the presented command answers a next
state or faults on one of the four conditions. Taking it off the port moves neither tested bit. -/
theorem nothingIsRefused : Obligations.NothingIsRefused := by
  unfold Obligations.NothingIsRefused
  intro s
  cases hd : s.answerDue with
  | some w => exact .inl ⟨_, step_of_due hd⟩
  | none =>
    rw [step_of_not_due hd]
    cases hexec : exec (decode s.presented) s.afterPort with
    | next t => exact .inl ⟨t, rfl⟩
    | refused r => exact absurd hexec (exec_ne_refused _ _ r)
    | fault f =>
      have hfault := exec_decode_eq_fault_iff.mp hexec
      rw [State.afterPort_cs, State.afterPort_inited] at hfault
      obtain ⟨hp, rfl⟩ | ⟨hp, hc, rfl⟩ | ⟨hp, hc, rfl⟩ | ⟨hp, hc, hn, rfl⟩ := hfault
      · exact .inr (.inl ⟨rfl, rfl, hp⟩)
      · exact .inr (.inr (.inl ⟨rfl, hc, rfl, hp⟩))
      · exact .inr (.inr (.inr (.inl ⟨rfl, hc, rfl, hp⟩)))
      · exact .inr (.inr (.inr (.inr ⟨hc, hn, rfl, hp⟩)))

end Sys2Proof.Machine
end

section
/-! PROOFS. The family 70_reset_and_hazards.md: the state after power-on (R211), and that a caller and
a transport that keep the rules make a run that never stops (R215, R217). The second rests on two
facts: under the rules an answer is due wherever the line is low, so that no command meets a READ in
flight, and a READ that leaves the port pays for the answer that its exchange takes. -/

namespace Sys2Proof.Machine

open Sys2Proof

/-! ## Power-on -/

/-- Settles O31: the three fields are written out in the reset state (R211). -/
theorem powerOnState : Obligations.PowerOnState := by
  unfold Obligations.PowerOnState
  exact ⟨rfl, rfl, rfl⟩

/-! ## What the rules of the two agents give -/

/-- Under the rules an exchange that is outstanding is answered at once (R217). -/
theorem State.keepsDiscipline.answerDue_of_low {s : State} (h : s.keepsDiscipline)
    (hc : s.cs = .low) : ∃ w, s.answerDue = some w := by
  obtain ⟨-, -, hwait, hreads⟩ := h
  rw [if_pos hc] at hreads
  obtain ⟨⟨wait, w⟩, rest, ha⟩ := List.exists_cons_of_length_pos (by omega : 0 < s.answers.length)
  obtain rfl : wait = 0 := hwait ⟨wait, w⟩ (by simp [ha])
  exact ⟨w, State.answerDue_eq_some.mpr ⟨hc, rest, ha⟩⟩

/-- Under the rules the caller's turn comes only with the line high. -/
theorem State.keepsDiscipline.high_of_not_due {s : State} (h : s.keepsDiscipline)
    (hd : s.answerDue = none) : s.cs = .high := by
  rw [← level_ne_low]
  intro hc
  obtain ⟨w, hdue⟩ := h.answerDue_of_low hc
  simp [hd] at hdue

/-- Under the rules the caller does not present the reserved code, at an empty port either (R90,
R215). -/
theorem State.keepsDiscipline.presented_ne_reserved {s : State} (h : s.keepsDiscipline) :
    s.presented.cmd ≠ 0b11#2 := by
  obtain ⟨-, hport, -, -⟩ := h
  cases hp : s.port with
  | nil => simp [State.presented, hp, noCommand]
  | cons p ps =>
    rw [State.presented_of_cons hp]
    exact hport p (by simp [hp])

/-- The READs at the port are the presented command, if it is one, and those behind it. -/
theorem State.countP_read_port (s : State) :
    (s.port.countP fun p => p.cmd == 0b10#2) =
      (s.port.tail.countP fun p => p.cmd == 0b10#2) + if s.presented.cmd = 0b10#2 then 1 else 0 := by
  cases hp : s.port with
  | nil => simp [State.presented, hp, noCommand]
  | cons p ps => simp [State.presented_of_cons hp, List.countP_cons]

/-! ## Progress and preservation -/

/-- Under the rules no step stops: each of the four faults breaks one of them. -/
theorem State.keepsDiscipline.exists_next {s : State} (h : s.keepsDiscipline) :
    ∃ t, step s = .next t := by
  obtain hnext | ⟨-, -, hcmd⟩ | ⟨hd, hlow, -, -⟩ | ⟨hd, hlow, -, -⟩ | ⟨-, hn, -, -⟩ :=
    nothingIsRefused s
  case inl => exact hnext
  case inr.inl => exact absurd hcmd h.presented_ne_reserved
  case inr.inr.inl => simp [h.high_of_not_due hd] at hlow
  case inr.inr.inr.inl => simp [h.high_of_not_due hd] at hlow
  case inr.inr.inr.inr =>
    obtain ⟨hinited, -, -, -⟩ := h
    simp [hinited] at hn

/-- The rules outlast a command that takes itself off the port, leaves the answers and lets the line
be low only where it was a READ. -/
theorem State.keepsDiscipline.of_command {s t : State} (h : s.keepsDiscipline)
    (hinited : t.inited = true) (hport : t.port = s.port.tail) (hanswers : t.answers = s.answers)
    (hlow : t.cs = .low → s.presented.cmd = 0b10#2) : t.keepsDiscipline := by
  obtain ⟨-, hcodes, hwait, hreads⟩ := h
  rw [State.countP_read_port] at hreads
  refine ⟨hinited, ?codes, by rwa [hanswers], ?reads⟩
  case codes =>
    rw [hport]
    exact fun p hp => hcodes p (List.mem_of_mem_tail hp)
  case reads =>
    rw [hport, hanswers]
    by_cases hc : t.cs = .low
    · rw [if_pos (hlow hc)] at hreads
      rw [if_pos hc]
      omega
    · rw [if_neg hc]
      omega

/-- The rules outlast READ's finish: the answer it uses up was the one for the READ in flight. -/
theorem State.keepsDiscipline.readFinished {s : State} {w : BusWord} (h : s.keepsDiscipline)
    (hd : s.answerDue = some w) : (s.dropAnswer.readFinished w).keepsDiscipline := by
  obtain ⟨hinited, hcodes, hwait, hreads⟩ := h
  obtain ⟨hc, rest, ha⟩ := State.answerDue_eq_some.mp hd
  rw [if_pos hc, ha, List.length_cons] at hreads
  refine ⟨by simpa using hinited, by simpa using hcodes, ?wait, ?reads⟩
  case wait =>
    rw [State.readFinished_answers, State.dropAnswer_answers]
    exact fun a hmem => hwait a (List.mem_of_mem_tail hmem)
  case reads => simpa [ha] using hreads

/-- Every step keeps the rules. -/
theorem step_keepsDiscipline {s t : State} (h : s.keepsDiscipline) (hstep : step s = .next t) :
    t.keepsDiscipline := by
  have hinited : s.inited = true := h.left
  obtain ⟨w, hd, rfl⟩ | ⟨hd, -, rfl⟩ | ⟨tp, c, -, -, hhigh, rfl⟩ | ⟨-, hread, hhigh, -, rfl⟩ :=
    step_next_cases hstep
  case inl => exact h.readFinished hd
  case inr.inl =>
    have hhigh := h.high_of_not_due hd
    rw [State.afterPort_of_high hhigh]
    exact h.of_command hinited rfl rfl (by simp [hhigh])
  case inr.inr.inl =>
    rw [State.afterPort_of_high hhigh]
    exact h.of_command rfl rfl rfl (by simp [hhigh])
  case inr.inr.inr =>
    rw [State.afterPort_of_high hhigh]
    exact h.of_command hinited rfl rfl fun _ => decode_eq_read_iff.mp hread

/-! ## Runs -/

/-- Where every state that meets an invariant steps to one that meets it, so does every run. -/
theorem runSteps_next_of_step_next {I : State → Prop}
    (hstep : ∀ s, I s → ∃ t, step s = .next t ∧ I t) (n : Nat) {s : State} (hs : I s) :
    ∃ t, runSteps n s = .next t ∧ I t := by
  induction n generalizing s with
  | zero => exact ⟨s, runSteps_zero s, hs⟩
  | succ n ih =>
    obtain ⟨u, hu, hI⟩ := hstep s hs
    rw [runSteps_succ_of_next n hu]
    exact ih hI

/-- Settles O27: the rules are an invariant under which every step answers a next state. -/
theorem disciplinedRunsNeverFault : Obligations.DisciplinedRunsNeverFault := by
  unfold Obligations.DisciplinedRunsNeverFault
  refine fun n s h => runSteps_next_of_step_next (fun s h => ?_) n h
  obtain ⟨t, ht⟩ := h.exists_next
  exact ⟨t, ht, step_keepsDiscipline h ht⟩

end Sys2Proof.Machine
end
